-- ==== Sys2Proof/Word.lean ====
section
/-! DEFINITION. The word types of the block (00_scope.md R8): bytes, byte strings, and the 32-bit words that carry a
command or a response. -/

namespace Sys2Proof

/-- One byte, unsigned, bit 0 the least significant (R8). -/
abbrev Byte := BitVec 8

/-- A byte string, index 0 first (R8). -/
abbrev Bytes := List Byte

/-- A 32-bit command word (30_encoding.md R70) or response word (R74). -/
abbrev Word := BitVec 32

end Sys2Proof
end

