-- ==== Sys2Proof/Syntax.lean ====
section
/-! DEFINITION. The twelve commands of the block, one constructor for each row of spec/opcode_table.json
(30_encoding.md R72). Operands are the 8-bit fields of the command word as they stand (R75). -/

namespace Sys2Proof

/-- A command with its operands (30_encoding.md R72). -/
inductive Instr where
  /-- `INSERT`: the token is plugged in (45_controller.md R170). -/
  | insert
  /-- `CLICK`: the button is pressed (45_controller.md R172). -/
  | click
  /-- `CRC16 src, len` (40_crc16.md R95). -/
  | crc16 (src len : Byte)
  /-- `BUILD` (41_block_codec.md R111). -/
  | build
  /-- `VALIDATE` (41_block_codec.md R112). -/
  | validate
  /-- `AESENC` (42_cipher.md R128). -/
  | aesenc
  /-- `AESDEC` (42_cipher.md R129). -/
  | aesdec
  /-- `MHENC src, len, dst` (43_modhex.md R146). -/
  | mhenc (src len dst : Byte)
  /-- `MHDEC src, len, dst` (43_modhex.md R147). -/
  | mhdec (src len dst : Byte)
  /-- `RDB addr` (46_access.md R185). -/
  | rdb (addr : Byte)
  /-- `WRB addr, data` (46_access.md R186). -/
  | wrb (addr data : Byte)
  /-- `RDCSR n` (46_access.md R187). -/
  | rdcsr (n : Byte)
deriving DecidableEq, Repr

end Sys2Proof
end

