-- ==== Sys2Proof/WellFormed.lean ====
section
/-! DEFINITION. Which commands have an encoding: the two operand checks that a mask cannot express
(30_encoding.md R73, R76: `MHENC` with `B` at most 128, `RDCSR` with `A` at most 4). -/

namespace Sys2Proof

/-- The command's operands are legal (30_encoding.md R73). -/
def Instr.wf : Instr → Bool
  | .insert => true
  | .click => true
  | .crc16 _ _ => true
  | .build => true
  | .validate => true
  | .aesenc => true
  | .aesdec => true
  | .mhenc _ len _ => decide (len.toNat ≤ 128)
  | .mhdec _ _ _ => true
  | .rdb _ => true
  | .wrb _ _ => true
  | .rdcsr n => decide (n.toNat ≤ 4)

end Sys2Proof
end

