-- ==== Sys2Proof/Decode.lean ====
section
/-! DEFINITION. The decoder of 30_encoding.md R73, total on every 32-bit word and rejecting by name, and after it the
encoder, written from the same tables (R70 to R72, R78). -/

namespace Sys2Proof

/-- Why a word decodes to `Illegal` (30_encoding.md R76). The reasons are not visible to the host: each one is answered
with IllegalCommand. -/
inductive DecodeError where
  /-- `OP` is none of the twelve values of R72. -/
  | unknownOpcode
  /-- A field that the command's format does not use is not zero (R71). -/
  | unusedFieldNotZero
  /-- `MHENC` with `B` greater than 128. -/
  | lengthTooLong
  /-- `RDCSR` with `A` greater than 4. -/
  | noSuchCsr
deriving DecidableEq, Repr

/-- `W[7:0]` = `OP` (R70). -/
def fieldOp (w : Word) : Byte := w.extractLsb' 0 8

/-- `W[15:8]` = `A` (R70). -/
def fieldA (w : Word) : Byte := w.extractLsb' 8 8

/-- `W[23:16]` = `B` (R70). -/
def fieldB (w : Word) : Byte := w.extractLsb' 16 8

/-- `W[31:24]` = `C` (R70). -/
def fieldC (w : Word) : Byte := w.extractLsb' 24 8

/-- The command, if the fields its format does not use are zero (R71). -/
def ifUnusedZero (unused : Bytes) (i : Instr) : Except DecodeError Instr :=
  if unused.all (· == 0) then .ok i else .error .unusedFieldNotZero

/-- `RDCSR A`, with `B` and `C` zero and `A` at most 4 (R73). -/
def decodeRdcsr (w : Word) : Except DecodeError Instr :=
  if 4 < (fieldA w).toNat then .error .noSuchCsr else ifUnusedZero [fieldB w, fieldC w] (.rdcsr (fieldA w))

/-- `MHENC A, B, C`, with `B` at most 128 (R73). -/
def decodeMhenc (w : Word) : Except DecodeError Instr :=
  if 128 < (fieldB w).toNat then .error .lengthTooLong else .ok (.mhenc (fieldA w) (fieldB w) (fieldC w))

/-- `decode(W)` of R73: all eight bits of `OP` are compared, and a word has one reading. -/
def decode (w : Word) : Except DecodeError Instr :=
  match (fieldOp w).toNat with
  | 0x01 => ifUnusedZero [fieldA w, fieldB w, fieldC w] .insert
  | 0x02 => ifUnusedZero [fieldA w, fieldB w, fieldC w] .click
  | 0x10 => ifUnusedZero [fieldC w] (.crc16 (fieldA w) (fieldB w))
  | 0x11 => ifUnusedZero [fieldA w, fieldB w, fieldC w] .build
  | 0x12 => ifUnusedZero [fieldA w, fieldB w, fieldC w] .validate
  | 0x20 => ifUnusedZero [fieldA w, fieldB w, fieldC w] .aesenc
  | 0x21 => ifUnusedZero [fieldA w, fieldB w, fieldC w] .aesdec
  | 0x30 => decodeMhenc w
  | 0x31 => .ok (.mhdec (fieldA w) (fieldB w) (fieldC w))
  | 0x40 => ifUnusedZero [fieldB w, fieldC w] (.rdb (fieldA w))
  | 0x41 => ifUnusedZero [fieldC w] (.wrb (fieldA w) (fieldB w))
  | 0x42 => decodeRdcsr w
  | _ => .error .unknownOpcode

/-- The word `OP | A << 8 | B << 16 | C << 24` (R78). -/
def assemble (op a b c : Byte) : Word := c ++ b ++ a ++ op

/-- The command word of a well-formed command, absent operands zero (R72, R78). -/
def encode : Instr → Word
  | .insert => assemble 0x01 0 0 0
  | .click => assemble 0x02 0 0 0
  | .crc16 src len => assemble 0x10 src len 0
  | .build => assemble 0x11 0 0 0
  | .validate => assemble 0x12 0 0 0
  | .aesenc => assemble 0x20 0 0 0
  | .aesdec => assemble 0x21 0 0 0
  | .mhenc src len dst => assemble 0x30 src len dst
  | .mhdec src len dst => assemble 0x31 src len dst
  | .rdb addr => assemble 0x40 addr 0 0
  | .wrb addr data => assemble 0x41 addr data 0
  | .rdcsr n => assemble 0x42 n 0 0

/-- The instruction the decoder reads from an opcode-table word of `nbits` bits. The command word is a number (R70), so
the table's numbering of bits is the word's own. -/
def decodeTableWord (nbits w : Nat) : Option Instr :=
  match decode (BitVec.ofNat 32 (w % 2 ^ nbits)) with
  | .ok i => some i
  | .error _ => none

end Sys2Proof
end

