-- ==== Sys2Proof/Config.lean ====
section
/-! DEFINITION. What is fixed for one block (00_scope.md R7), the type of the Store's answer (20_memory.md R58), and the
free values of the spec: the environment's answers and the contents BM powers up with. A free value is an opaque
constant with no body: nothing can be proved about it but that it is a value of its type. -/

namespace Sys2Proof.Config

/-- `PUBID_LEN`, the length of the public identity: 12 characters (00_scope.md R7, decision D6; log 7: DESIGN CHOICE). -/
abbrev pubidLen : Nat := 12

/-- The key a Store delivers: a byte string of 0 to 255 bytes (20_memory.md R58, 10_state.md R25). -/
abbrev KeyText := { k : Bytes // k.length ≤ 255 }

/-- The mapping `m` that `StoreLoad()` returns (20_memory.md R58). A `publicId` of another length is a failed load
(92_eei_decisions.md D18), so the type has none (log 8: DEDUCED, safe). -/
structure StoreRecord where
  /-- `m.publicId`: `PUBID_LEN` character codes. -/
  publicId : Vector Byte pubidLen
  /-- `m.privateId`: 48 bits. -/
  privateId : BitVec 48
  /-- `m.aesKey`: 0 to 255 bytes, 16 for a sound device. -/
  aesKey : KeyText
  /-- `m.sessionCounter`: 16 bits. -/
  sessionCounter : BitVec 16
deriving DecidableEq, Repr

/-- FREE VALUE: the Store's answer to its n-th `StoreLoad()`, any mapping or the error `none` (R58, U5; log 1: DESIGN
CHOICE, safe). -/
opaque storeLoad : Nat → Option StoreRecord

/-- FREE VALUE: the Store's answer to its n-th `StoreSave`, true for OK (R58, U5; log 1: DESIGN CHOICE, safe). -/
opaque storeSave : Nat → Bool

/-- FREE VALUE: the n-th `draw16()` (10_state.md R40, U3; log 1: DESIGN CHOICE, safe). -/
opaque draw16 : Nat → BitVec 16

/-- FREE VALUE: the n-th `draw24()` (10_state.md R40, U3; log 1: DESIGN CHOICE, safe). -/
opaque draw24 : Nat → BitVec 24

/-- FREE VALUE: the n-th reading of the pseudo-clock, a natural number under no law (10_state.md R39, U4; log 1:
DESIGN CHOICE, safe). -/
opaque now : Nat → Nat

/-- FREE VALUE: the byte of BM that stands at an address after the n-th assertion of reset (after power-up for 0),
until a command writes it (10_state.md R45, U10; log 4: DESIGN CHOICE, safe). -/
opaque bmPowerUp : Nat → Nat → Byte

end Sys2Proof.Config
end

