-- ==== Sys2Proof/Machine/State.lean ====
section
/-! DEFINITION. The state of the block as plain data (10_state.md R20), with the block's interface to the host and the
environment beside it (00_scope.md R12), the stop reasons, and the state after reset (R45, 70_reset_and_hazards.md R220). -/

namespace Sys2Proof.Machine

/-- Why a step could stop with a fault. There is no reason: every command ends in exactly one response and the block
never hangs and never waits (00_scope.md R13). The type is empty, so that no fault can be answered (log 12: DEDUCED,
safe). -/
inductive Fault where
deriving DecidableEq, Repr

/-- Why a step could refuse. -/
inductive Refusal where
  /-- The command has no meaning yet. It would be raised by an arm of `exec`; every arm has its meaning, so nothing
  raises it. Safe: it stops where the block goes on. -/
  | notModelled (mnemonic : String)
deriving DecidableEq, Repr

/-- Buffer memory: the (address, byte) pairs written since reset, addresses strictly rising (`Memory.wf`). An address
that is not listed holds no known value: it reads as a free value (10_state.md R45; log 4: DESIGN CHOICE, safe). -/
abbrev Memory := List Host.Cell

/-- One port of the environment (00_scope.md R12): the answers already scripted for it, and how many answers the block
has taken. When the script is empty the answer is a free value of Config at that count (log 1: DESIGN CHOICE, safe). -/
structure Port (α : Type) where
  /-- Scripted answers, the next one first. -/
  script : List α
  /-- How many answers the block has taken from this port. -/
  taken : Nat
deriving DecidableEq, Repr

/-- The environment's five ports (00_scope.md R12). -/
structure Env where
  /-- Answers of `StoreLoad()`, `none` for StorageError (20_memory.md R58). -/
  loads : Port (Option Config.StoreRecord)
  /-- Answers of `StoreSave`, true for OK (20_memory.md R58). -/
  saves : Port Bool
  /-- Answers of `draw16()` (10_state.md R40). -/
  draws16 : Port (BitVec 16)
  /-- Answers of `draw24()` (10_state.md R40). -/
  draws24 : Port (BitVec 24)
  /-- Readings of the pseudo-clock `Now()` (10_state.md R39). -/
  nows : Port Nat
deriving DecidableEq, Repr

/-- One call the block has issued on the Store port, with its answer (20_memory.md R58, R60). -/
inductive StoreCall where
  /-- `StoreLoad()` and its answer. -/
  | load (answer : Option Config.StoreRecord)
  /-- `StoreSave(ctr)` and whether the Store answered OK. -/
  | save (ctr : BitVec 16) (ok : Bool)
deriving DecidableEq, Repr

/-- One input of the host: a command word (30_encoding.md R70) or an assertion of reset (70_reset_and_hazards.md
R220). -/
inductive HostInput where
  /-- The host presents a command word. -/
  | command (w : Word)
  /-- Reset is asserted (or the power is cycled) between two commands (log 5: DESIGN CHOICE, safe). -/
  | assertReset
deriving DecidableEq, Repr

/-- The complete state of the core (10_state.md R20), then the sequencing of reset, then the model's own fields for the
host and the environment. -/
structure State where
  /-- `PUBID[0..11]` (R23). -/
  pubid : Vector Byte Config.pubidLen
  /-- `PRIVID[47:0]` (R24). -/
  privid : BitVec 48
  /-- `KEY[0..15]` (R25). -/
  key : Vector Byte 16
  /-- `KEYLEN[7:0]` (R25). -/
  keylen : BitVec 8
  /-- `CTR[15:0]`, the session counter (R26). -/
  ctr : BitVec 16
  /-- `USE[7:0]`, the session use (R27). -/
  sessionUse : BitVec 8
  /-- `TSOFF[23:0]`, the timestamp offset (R28, R41). -/
  tsoff : BitVec 24
  /-- `READY` (R30). -/
  ready : Bool
  /-- `LASTERR[3:0]` (R31). -/
  lasterr : BitVec 4
  /-- `BM[0..255]` (R37). -/
  bm : Memory
  /-- Reset stage 1 is done and stage 2, the implicit INSERT, is still owed (70_reset_and_hazards.md R220, R221; log
  3: DEDUCED, safe). -/
  booting : Bool
  /-- MODEL: how many times reset has been asserted; picks the free contents of BM (log 4: DESIGN CHOICE, safe). -/
  epoch : Nat
  /-- MODEL: the host's inputs not yet taken, the next one first (R22; log 2: DESIGN CHOICE, safe). -/
  inbox : List HostInput
  /-- MODEL: the response words returned so far, newest first (30_encoding.md R74; log 2: DESIGN CHOICE, safe). -/
  rsps : List Word
  /-- MODEL: the environment's ports (00_scope.md R12; log 1: DESIGN CHOICE, safe). -/
  env : Env
  /-- MODEL: the Store calls issued so far, newest first (20_memory.md R58; log 9: DESIGN CHOICE, safe). -/
  storeLog : List StoreCall
deriving DecidableEq, Repr

/-- An environment with nothing scripted and no answer taken: every answer is a free value (log 1: DESIGN CHOICE,
safe). -/
def Env.unscripted : Env := ⟨⟨[], 0⟩, ⟨[], 0⟩, ⟨[], 0⟩, ⟨[], 0⟩, ⟨[], 0⟩⟩

/-- The state right after reset stage 1: every register at its cold value (10_state.md R45, 70_reset_and_hazards.md
R220), BM with nothing known, and the implicit INSERT of stage 2 (R221) still owed. -/
def State.reset : State where
  pubid := Vector.replicate Config.pubidLen 0#8
  privid := 0#48
  key := Vector.replicate 16 0#8
  keylen := 0#8
  ctr := 0#16
  sessionUse := 0#8
  tsoff := 0#24
  ready := false
  lasterr := 0#4
  bm := []
  booting := true
  epoch := 0
  inbox := []
  rsps := []
  env := Env.unscripted
  storeLog := []

end Sys2Proof.Machine
end

