-- ==== Sys2Proof/Machine/Ops.lean ====
section
/-! DEFINITION. The named operations over the state: buffer memory (00_scope.md R9), the environment's answers (R12), the
response (30_encoding.md R74), and taking an error (60_exceptions.md R196, R206). -/

namespace Sys2Proof.Machine

/-! ### Buffer memory -/

/-- The canonical form of BM: addresses strictly rising and below 256 (10_state.md R37). An unlisted address holds no
known value, so that no entry can repeat what it holds (log 4: DESIGN CHOICE, safe). -/
def Memory.wf (m : Memory) : Bool :=
  decide (m.Pairwise fun p q => p.1 < q.1) && m.all fun p => decide (p.1 < 256)

/-- The byte written at an address since reset, if any. -/
def bmPeek : Memory → Nat → Option Byte
  | [], _ => none
  | (b, v) :: m, a => if b = a then some v else bmPeek m a

/-- Write one byte, keeping the addresses rising. -/
def bmPoke : Memory → Nat → Byte → Memory
  | [], a, v => [(a, v)]
  | (b, u) :: m, a, v =>
    if a < b then (a, v) :: (b, u) :: m else if a = b then (a, v) :: m else (b, u) :: bmPoke m a v

/-- `BM[a]` (00_scope.md R9): the byte written there since reset, or the free value that memory powered up with
(10_state.md R45, log 4: DESIGN CHOICE, safe). -/
def readByte (s : State) (a : Byte) : Byte :=
  (bmPeek s.bm a.toNat).getD (Config.bmPowerUp s.epoch a.toNat)

/-- `MemRead(a, n)` (00_scope.md R9): addresses `(a + i) mod 256`. -/
def memRead (s : State) : Byte → Nat → Bytes
  | _, 0 => []
  | a, n + 1 => readByte s a :: memRead s (a + 1#8) n

/-- `MemWrite` of a byte string on BM, in index order, addresses modulo 256 (00_scope.md R9). -/
def bmWrite : Memory → Byte → Bytes → Memory
  | m, _, [] => m
  | m, a, v :: vs => bmWrite (bmPoke m a.toNat v) (a + 1#8) vs

/-- `MemWrite(a, len(vs), vs)` (00_scope.md R9). -/
def memWrite (a : Byte) (vs : Bytes) (s : State) : State :=
  { s with bm := bmWrite s.bm a vs }

/-! ### The environment's answers (00_scope.md R12) -/

/-- The next answer of a port: the first scripted one, or the free value at its count (log 1: DESIGN CHOICE, safe). -/
def Port.answer {α : Type} (free : Nat → α) (p : Port α) : α :=
  p.script.headD (free p.taken)

/-- The port after its answer has been taken. -/
def Port.next {α : Type} (p : Port α) : Port α :=
  ⟨p.script.tail, p.taken + 1⟩

/-- What `StoreLoad()` answers now: a mapping, or `none` for StorageError (20_memory.md R58). -/
def loadAnswer (s : State) : Option Config.StoreRecord :=
  s.env.loads.answer Config.storeLoad

/-- The state once `StoreLoad()` has been called. -/
def afterLoad (s : State) : State :=
  { s with env := { s.env with loads := s.env.loads.next }, storeLog := .load (loadAnswer s) :: s.storeLog }

/-- Whether `StoreSave` answers OK now (20_memory.md R58). -/
def saveAnswer (s : State) : Bool :=
  s.env.saves.answer Config.storeSave

/-- The state once `StoreSave(CTR)` has been called (20_memory.md R58, 44_session.md R163). -/
def afterSave (s : State) : State :=
  { s with env := { s.env with saves := s.env.saves.next }, storeLog := .save s.ctr (saveAnswer s) :: s.storeLog }

/-- What `draw24()` answers now (10_state.md R40). -/
def draw24Answer (s : State) : BitVec 24 :=
  s.env.draws24.answer Config.draw24

/-- `TSOFF <- draw24()` (44_session.md R157). -/
def redrawOffset (s : State) : State :=
  { s with env := { s.env with draws24 := s.env.draws24.next }, tsoff := draw24Answer s }

/-- What `draw16()` answers now (10_state.md R40). -/
def draw16Answer (s : State) : BitVec 16 :=
  s.env.draws16.answer Config.draw16

/-- The reading `Now()` gives now (10_state.md R39). -/
def nowAnswer (s : State) : Nat :=
  s.env.nows.answer Config.now

/-- The state once one `draw16()` and one `Now()` have been taken (10_state.md R39, R40: once per CLICK and BUILD). -/
def afterDraws (s : State) : State :=
  { s with env := { s.env with draws16 := s.env.draws16.next, nows := s.env.nows.next } }

/-! ### Errors and the response -/

/-- The error kinds of 60_exceptions.md R196, `ok` for none. -/
inductive ErrCode where
  | ok
  | storageError
  | sessionCounterExhausted
  | cryptoError
  | invalidEncoding
  | invalidBlock
  | illegalCommand
  | notReady
deriving DecidableEq, Repr

/-- The 4-bit code of an error kind (60_exceptions.md R196). Codes 8 to 15 are never returned. -/
def errCode : ErrCode → BitVec 4
  | .ok => 0#4
  | .storageError => 1#4
  | .sessionCounterExhausted => 2#4
  | .cryptoError => 3#4
  | .invalidEncoding => 4#4
  | .invalidBlock => 5#4
  | .illegalCommand => 6#4
  | .notReady => 7#4

/-- The response word (30_encoding.md R74): `RSP[31:8]` = `VAL`, `RSP[7:4]` = 0, `RSP[3:0]` = `ERR`. -/
def packRsp (e : ErrCode) (val : BitVec 24) : Word :=
  val ++ 0#4 ++ errCode e

/-- Return `(ERR, VAL)` to the host (00_scope.md R13, 30_encoding.md R74). -/
def respond (e : ErrCode) (val : BitVec 24) (s : State) : State :=
  { s with rsps := packRsp e val :: s.rsps }

/-- `LASTERR <- code` (10_state.md R31): done by INSERT and CLICK only. -/
def latchErr (e : ErrCode) (s : State) : State :=
  { s with lasterr := errCode e }

/-- TAKING AN ERROR (60_exceptions.md R196, R206): the command ends with the error's code and the `VAL` of R196's table;
nothing is saved, no mode changes, what was done before stays done. There is no handler and so no return (R207). -/
def raiseError (e : ErrCode) (val : BitVec 24) (s : State) : State :=
  respond e val s

/-- A sequence that can `raise` (00_scope.md R9): it ends, or stops with an error, in a state that keeps all that was
done before. -/
inductive Proc where
  /-- It ran to its end. -/
  | done (s : State)
  /-- It raised an error. -/
  | raised (e : ErrCode) (s : State)
deriving DecidableEq, Repr

/-- The end of INSERT or CLICK: `LASTERR` takes the error's code, or 0 on success (10_state.md R31, 60_exceptions.md
R196). -/
def latchOutcome : Proc → Proc
  | .done s => .done (latchErr .ok s)
  | .raised e s => .raised e (latchErr e s)

/-- The response of INSERT or CLICK: `VAL` from the final state on success, 0 on an error (30_encoding.md R74). -/
def answerProc (val : State → BitVec 24) : Proc → State
  | .done s => respond .ok (val s) s
  | .raised e s => raiseError e 0#24 s

/-! ### Reset -/

/-- Assertion of reset (70_reset_and_hazards.md R220): every register takes its cold value, BM is unspecified again, and
the implicit INSERT is owed (R221). The Store is not touched; the environment, the record of calls and the host's own
lists are not the block's (log 5: DESIGN CHOICE, safe). -/
def assertReset (s : State) : State :=
  { State.reset with
    epoch := s.epoch + 1, inbox := s.inbox, rsps := s.rsps, env := s.env, storeLog := s.storeLog }

end Sys2Proof.Machine
end

