-- ==== Sys2Proof/Machine/Operands.lean ====
section
/-! DEFINITION. Operand assembly (30_encoding.md R75), the byte orders of 20_memory.md R50 to R52, and the map of the
buffer memory (R55). -/

namespace Sys2Proof.Machine

/-- `zext_24` (00_scope.md R9). -/
def zext24 {n : Nat} (v : BitVec n) : BitVec 24 :=
  v.setWidth 24

/-- Byte `k` of a little-endian field: `v[8k+7:8k]` (00_scope.md R8, 20_memory.md R51). -/
def byteOf {n : Nat} (v : BitVec n) (k : Nat) : Byte :=
  v.extractLsb' (8 * k) 8

/-- `b[7:4]`, the nibble that comes first in ModHex (20_memory.md R52). -/
def highNibble (b : Byte) : BitVec 4 :=
  b.extractLsb' 4 4

/-- `b[3:0]` (20_memory.md R52). -/
def lowNibble (b : Byte) : BitVec 4 :=
  b.extractLsb' 0 4

/-- First address of the BLK region, 0x00..0x0F (20_memory.md R55). -/
def blkBase : Byte := 0x00#8

/-- First address of the CT region, 0x10..0x1F (20_memory.md R55). -/
def ctBase : Byte := 0x10#8

/-- First address of the OUT region, 0x20..0x4B (20_memory.md R55). -/
def outBase : Byte := 0x20#8

/-- `BLOCK_LEN` (00_scope.md R6). -/
def blockLen : Nat := 16

/-- `PUBID_LEN` + 32, the length of the OTP string (45_controller.md R175). -/
def otpLen : Nat := Config.pubidLen + 32

end Sys2Proof.Machine
end

