-- ==== Sys2Proof/Machine/Flags.lean ====
section
/-! DEFINITION. The status bits and the CSR windows (10_state.md R32 to R34). The block has no condition codes (R44). -/

namespace Sys2Proof.Machine

/-- CSR 0, STATUS: bits [3:0] `LASTERR`, bit 4 `READY`, bits [23:5] 0 (10_state.md R33, 46_access.md R187). -/
def statusValue (s : State) : BitVec 24 :=
  zext24 (BitVec.ofBool s.ready ++ s.lasterr)

/-- The value of CSR `n` (10_state.md R32 to R34); there is no CSR above 4. -/
def csrValue (s : State) (n : Byte) : Option (BitVec 24) :=
  match n.toNat with
  | 0 => some (statusValue s)
  | 1 => some (zext24 s.ctr)
  | 2 => some (zext24 s.sessionUse)
  | 3 => some s.tsoff
  | 4 => some (zext24 s.keylen)
  | _ => none

end Sys2Proof.Machine
end

