-- ==== Sys2Proof/Machine/Crc.lean ====
section
/-! DEFINITION. The CRC16 Engine and the command CRC16 (40_crc16.md). -/

namespace Sys2Proof.Machine

/-- `CRC_INIT` (00_scope.md R6). -/
def crcInit : BitVec 16 := 0xFFFF#16

/-- `CRC_POLY` (00_scope.md R6). -/
def crcPoly : BitVec 16 := 0x8408#16

/-- `CRC_RESIDUE` (00_scope.md R6, 40_crc16.md R93). -/
def crcResidue : BitVec 16 := 0xF0B8#16

/-- One iteration (40_crc16.md R90): the test is on the value the iteration starts with, the shift is logical. -/
def crcStep (r : BitVec 16) : BitVec 16 :=
  if r.getLsbD 0 then (r >>> 1) ^^^ crcPoly else r >>> 1

/-- `n` iterations. -/
def crcSteps : Nat → BitVec 16 → BitVec 16
  | 0, r => r
  | n + 1, r => crcSteps n (crcStep r)

/-- `crc_byte(r, b)` (40_crc16.md R90): XOR into the low byte, then 8 iterations. -/
def crcByte (r : BitVec 16) (b : Byte) : BitVec 16 :=
  crcSteps 8 (r ^^^ b.setWidth 16)

/-- `crc16(bytes, n)` (40_crc16.md R91): the first `n` bytes, in order, from the initial value. -/
def crc16 (bs : Bytes) (n : Nat) : BitVec 16 :=
  (bs.take n).foldl crcByte crcInit

/-- `CRC16 src, len` (40_crc16.md R95). -/
def execCrc16 (src len : Byte) (s : State) : Host.Outcome State Fault Refusal :=
  .next (respond .ok (zext24 (crc16 (memRead s src len.toNat) len.toNat)) s)

end Sys2Proof.Machine
end

