-- ==== Sys2Proof/Machine/Codec.lean ====
section
/-! DEFINITION. The Block Codec and the commands BUILD and VALIDATE (41_block_codec.md). -/

namespace Sys2Proof.Machine

/-- The pseudo-timestamp `(now - TSOFF) mod 2^24` (41_block_codec.md R104). -/
def pseudoTimestamp (now : Nat) (tsoff : BitVec 24) : BitVec 24 :=
  BitVec.ofNat 24 now - tsoff

/-- Bytes 0..13 of a block (41_block_codec.md R100 to R106, R108). -/
def blockData (privid : BitVec 48) (ctr : BitVec 16) (su : BitVec 8) (now : Nat) (tsoff : BitVec 24)
    (rnd : BitVec 16) : Bytes :=
  [byteOf privid 0, byteOf privid 1, byteOf privid 2, byteOf privid 3, byteOf privid 4, byteOf privid 5,
    byteOf ctr 0, byteOf ctr 1,
    byteOf (pseudoTimestamp now tsoff) 0, byteOf (pseudoTimestamp now tsoff) 1, byteOf (pseudoTimestamp now tsoff) 2,
    su,
    byteOf rnd 0, byteOf rnd 1]

/-- The check field of a byte string: the complement of its CRC, low byte first (41_block_codec.md R107). -/
def checkField (d : Bytes) : Bytes :=
  [byteOf (~~~ crc16 d d.length) 0, byteOf (~~~ crc16 d d.length) 1]

/-- `buildBlock(privid, ctr, use, now, tsoff, rnd)` (41_block_codec.md R108). -/
def buildBlock (privid : BitVec 48) (ctr : BitVec 16) (su : BitVec 8) (now : Nat) (tsoff : BitVec 24)
    (rnd : BitVec 16) : Bytes :=
  let d := blockData privid ctr su now tsoff rnd
  d ++ checkField d

/-- The block that the registers, the next draw and the next clock reading give (R111, 45_controller.md R172). -/
def blockNow (s : State) : Bytes :=
  buildBlock s.privid s.ctr s.sessionUse (nowAnswer s) s.tsoff (draw16Answer s)

/-- `validBlock(blk)` (41_block_codec.md R109). -/
def validBlock (blk : Bytes) : Bool :=
  crc16 blk blockLen == crcResidue

/-- `BUILD` (41_block_codec.md R111). -/
def execBuild (s : State) : Host.Outcome State Fault Refusal :=
  .next (if s.ready then respond .ok 16#24 (memWrite blkBase (blockNow s) (afterDraws s)) else raiseError .notReady 0#24 s)

/-- `VALIDATE` (41_block_codec.md R112): `VAL` is the CRC computed, on the error too. -/
def execValidate (s : State) : Host.Outcome State Fault Refusal :=
  let blk := memRead s blkBase blockLen
  let val := zext24 (crc16 blk blockLen)
  .next (if validBlock blk then respond .ok val s else raiseError .invalidBlock val s)

end Sys2Proof.Machine
end

