-- ==== Sys2Proof/Machine/Cipher.lean ====
section
/-! DEFINITION. The Cipher Adapter: AES-128 on one block and its inverse, and the commands AESENC and AESDEC
(42_cipher.md). The algorithm is concrete (R117 to R125), not the opaque alternative of R127 (log 6: DESIGN CHOICE,
unsafe if a table were wrong). -/

namespace Sys2Proof.Machine

/-- Four bytes: a column `s[0][c]..s[3][c]` of the cipher's state, or a key word `w[j]` (42_cipher.md R117). -/
structure Quad where
  /-- Row 0. -/
  b0 : Byte
  /-- Row 1. -/
  b1 : Byte
  /-- Row 2. -/
  b2 : Byte
  /-- Row 3. -/
  b3 : Byte
deriving DecidableEq, Repr

/-- The cipher's 4×4 state, column by column, or the four words of a round key (42_cipher.md R117, R121). -/
structure AesBlock where
  /-- Column 0. -/
  c0 : Quad
  /-- Column 1. -/
  c1 : Quad
  /-- Column 2. -/
  c2 : Quad
  /-- Column 3. -/
  c3 : Quad
deriving DecidableEq, Repr

/-- Bytes `4c..4c+3` of a byte string, as column `c` (42_cipher.md R117). -/
def quadOfBytes (bs : Bytes) (c : Nat) : Quad :=
  ⟨bs.getD (4 * c) 0, bs.getD (4 * c + 1) 0, bs.getD (4 * c + 2) 0, bs.getD (4 * c + 3) 0⟩

/-- 16 input or key bytes as four columns: `in[i]` goes to `s[i mod 4][i div 4]` (42_cipher.md R117). -/
def blockOfBytes (bs : Bytes) : AesBlock :=
  ⟨quadOfBytes bs 0, quadOfBytes bs 1, quadOfBytes bs 2, quadOfBytes bs 3⟩

/-- The four bytes of a column, row 0 first. -/
def quadBytes (q : Quad) : Bytes :=
  [q.b0, q.b1, q.b2, q.b3]

/-- `out[r + 4c] = s[r][c]` (42_cipher.md R117). -/
def blockBytes (s : AesBlock) : Bytes :=
  quadBytes s.c0 ++ quadBytes s.c1 ++ quadBytes s.c2 ++ quadBytes s.c3

/-! ### Field arithmetic (42_cipher.md R118) -/

/-- `xtime(a)` = `2·a` (42_cipher.md R118). -/
def xtime (a : Byte) : Byte :=
  if a.getLsbD 7 then (a <<< 1) ^^^ 0x1B else a <<< 1

/-- `3·a` (R118). -/
def mul3 (a : Byte) : Byte := xtime a ^^^ a

/-- `4·a` (R118). -/
def mul4 (a : Byte) : Byte := xtime (xtime a)

/-- `8·a` (R118). -/
def mul8 (a : Byte) : Byte := xtime (mul4 a)

/-- `9·a` (R118). -/
def mul9 (a : Byte) : Byte := mul8 a ^^^ a

/-- `11·a` (R118). -/
def mul11 (a : Byte) : Byte := mul8 a ^^^ xtime a ^^^ a

/-- `13·a` (R118). -/
def mul13 (a : Byte) : Byte := mul8 a ^^^ mul4 a ^^^ a

/-- `14·a` (R118). -/
def mul14 (a : Byte) : Byte := mul8 a ^^^ mul4 a ^^^ xtime a

/-! ### The substitution tables (42_cipher.md R119, R120) -/

/-- The table `SBOX[0..255]` of 42_cipher.md R119, one row of 16 a line. -/
def sboxTable : Bytes :=
  [0x63, 0x7C, 0x77, 0x7B, 0xF2, 0x6B, 0x6F, 0xC5, 0x30, 0x01, 0x67, 0x2B, 0xFE, 0xD7, 0xAB, 0x76] ++
  [0xCA, 0x82, 0xC9, 0x7D, 0xFA, 0x59, 0x47, 0xF0, 0xAD, 0xD4, 0xA2, 0xAF, 0x9C, 0xA4, 0x72, 0xC0] ++
  [0xB7, 0xFD, 0x93, 0x26, 0x36, 0x3F, 0xF7, 0xCC, 0x34, 0xA5, 0xE5, 0xF1, 0x71, 0xD8, 0x31, 0x15] ++
  [0x04, 0xC7, 0x23, 0xC3, 0x18, 0x96, 0x05, 0x9A, 0x07, 0x12, 0x80, 0xE2, 0xEB, 0x27, 0xB2, 0x75] ++
  [0x09, 0x83, 0x2C, 0x1A, 0x1B, 0x6E, 0x5A, 0xA0, 0x52, 0x3B, 0xD6, 0xB3, 0x29, 0xE3, 0x2F, 0x84] ++
  [0x53, 0xD1, 0x00, 0xED, 0x20, 0xFC, 0xB1, 0x5B, 0x6A, 0xCB, 0xBE, 0x39, 0x4A, 0x4C, 0x58, 0xCF] ++
  [0xD0, 0xEF, 0xAA, 0xFB, 0x43, 0x4D, 0x33, 0x85, 0x45, 0xF9, 0x02, 0x7F, 0x50, 0x3C, 0x9F, 0xA8] ++
  [0x51, 0xA3, 0x40, 0x8F, 0x92, 0x9D, 0x38, 0xF5, 0xBC, 0xB6, 0xDA, 0x21, 0x10, 0xFF, 0xF3, 0xD2] ++
  [0xCD, 0x0C, 0x13, 0xEC, 0x5F, 0x97, 0x44, 0x17, 0xC4, 0xA7, 0x7E, 0x3D, 0x64, 0x5D, 0x19, 0x73] ++
  [0x60, 0x81, 0x4F, 0xDC, 0x22, 0x2A, 0x90, 0x88, 0x46, 0xEE, 0xB8, 0x14, 0xDE, 0x5E, 0x0B, 0xDB] ++
  [0xE0, 0x32, 0x3A, 0x0A, 0x49, 0x06, 0x24, 0x5C, 0xC2, 0xD3, 0xAC, 0x62, 0x91, 0x95, 0xE4, 0x79] ++
  [0xE7, 0xC8, 0x37, 0x6D, 0x8D, 0xD5, 0x4E, 0xA9, 0x6C, 0x56, 0xF4, 0xEA, 0x65, 0x7A, 0xAE, 0x08] ++
  [0xBA, 0x78, 0x25, 0x2E, 0x1C, 0xA6, 0xB4, 0xC6, 0xE8, 0xDD, 0x74, 0x1F, 0x4B, 0xBD, 0x8B, 0x8A] ++
  [0x70, 0x3E, 0xB5, 0x66, 0x48, 0x03, 0xF6, 0x0E, 0x61, 0x35, 0x57, 0xB9, 0x86, 0xC1, 0x1D, 0x9E] ++
  [0xE1, 0xF8, 0x98, 0x11, 0x69, 0xD9, 0x8E, 0x94, 0x9B, 0x1E, 0x87, 0xE9, 0xCE, 0x55, 0x28, 0xDF] ++
  [0x8C, 0xA1, 0x89, 0x0D, 0xBF, 0xE6, 0x42, 0x68, 0x41, 0x99, 0x2D, 0x0F, 0xB0, 0x54, 0xBB, 0x16]

/-- The table `INVSBOX[0..255]` of 42_cipher.md R120. -/
def invSboxTable : Bytes :=
  [0x52, 0x09, 0x6A, 0xD5, 0x30, 0x36, 0xA5, 0x38, 0xBF, 0x40, 0xA3, 0x9E, 0x81, 0xF3, 0xD7, 0xFB] ++
  [0x7C, 0xE3, 0x39, 0x82, 0x9B, 0x2F, 0xFF, 0x87, 0x34, 0x8E, 0x43, 0x44, 0xC4, 0xDE, 0xE9, 0xCB] ++
  [0x54, 0x7B, 0x94, 0x32, 0xA6, 0xC2, 0x23, 0x3D, 0xEE, 0x4C, 0x95, 0x0B, 0x42, 0xFA, 0xC3, 0x4E] ++
  [0x08, 0x2E, 0xA1, 0x66, 0x28, 0xD9, 0x24, 0xB2, 0x76, 0x5B, 0xA2, 0x49, 0x6D, 0x8B, 0xD1, 0x25] ++
  [0x72, 0xF8, 0xF6, 0x64, 0x86, 0x68, 0x98, 0x16, 0xD4, 0xA4, 0x5C, 0xCC, 0x5D, 0x65, 0xB6, 0x92] ++
  [0x6C, 0x70, 0x48, 0x50, 0xFD, 0xED, 0xB9, 0xDA, 0x5E, 0x15, 0x46, 0x57, 0xA7, 0x8D, 0x9D, 0x84] ++
  [0x90, 0xD8, 0xAB, 0x00, 0x8C, 0xBC, 0xD3, 0x0A, 0xF7, 0xE4, 0x58, 0x05, 0xB8, 0xB3, 0x45, 0x06] ++
  [0xD0, 0x2C, 0x1E, 0x8F, 0xCA, 0x3F, 0x0F, 0x02, 0xC1, 0xAF, 0xBD, 0x03, 0x01, 0x13, 0x8A, 0x6B] ++
  [0x3A, 0x91, 0x11, 0x41, 0x4F, 0x67, 0xDC, 0xEA, 0x97, 0xF2, 0xCF, 0xCE, 0xF0, 0xB4, 0xE6, 0x73] ++
  [0x96, 0xAC, 0x74, 0x22, 0xE7, 0xAD, 0x35, 0x85, 0xE2, 0xF9, 0x37, 0xE8, 0x1C, 0x75, 0xDF, 0x6E] ++
  [0x47, 0xF1, 0x1A, 0x71, 0x1D, 0x29, 0xC5, 0x89, 0x6F, 0xB7, 0x62, 0x0E, 0xAA, 0x18, 0xBE, 0x1B] ++
  [0xFC, 0x56, 0x3E, 0x4B, 0xC6, 0xD2, 0x79, 0x20, 0x9A, 0xDB, 0xC0, 0xFE, 0x78, 0xCD, 0x5A, 0xF4] ++
  [0x1F, 0xDD, 0xA8, 0x33, 0x88, 0x07, 0xC7, 0x31, 0xB1, 0x12, 0x10, 0x59, 0x27, 0x80, 0xEC, 0x5F] ++
  [0x60, 0x51, 0x7F, 0xA9, 0x19, 0xB5, 0x4A, 0x0D, 0x2D, 0xE5, 0x7A, 0x9F, 0x93, 0xC9, 0x9C, 0xEF] ++
  [0xA0, 0xE0, 0x3B, 0x4D, 0xAE, 0x2A, 0xF5, 0xB0, 0xC8, 0xEB, 0xBB, 0x3C, 0x83, 0x53, 0x99, 0x61] ++
  [0x17, 0x2B, 0x04, 0x7E, 0xBA, 0x77, 0xD6, 0x26, 0xE1, 0x69, 0x14, 0x63, 0x55, 0x21, 0x0C, 0x7D]

/-- `SBOX[a]` (42_cipher.md R119). -/
def sbox (a : Byte) : Byte := sboxTable.getD a.toNat 0

/-- `INVSBOX[a]` (42_cipher.md R120). -/
def invSbox (a : Byte) : Byte := invSboxTable.getD a.toNat 0

/-! ### The round transformations (42_cipher.md R121) and their inverses (R124) -/

/-- A map of bytes on each row of a column. -/
def mapQuad (f : Byte → Byte) (q : Quad) : Quad :=
  ⟨f q.b0, f q.b1, f q.b2, f q.b3⟩

/-- XOR of two columns or words. -/
def xorQuad (p q : Quad) : Quad :=
  ⟨p.b0 ^^^ q.b0, p.b1 ^^^ q.b1, p.b2 ^^^ q.b2, p.b3 ^^^ q.b3⟩

/-- A map of columns on each column of a state. -/
def mapCols (f : Quad → Quad) (s : AesBlock) : AesBlock :=
  ⟨f s.c0, f s.c1, f s.c2, f s.c3⟩

/-- `SubBytes` (R121). -/
def subBytes (s : AesBlock) : AesBlock := mapCols (mapQuad sbox) s

/-- `InvSubBytes` (R124). -/
def invSubBytes (s : AesBlock) : AesBlock := mapCols (mapQuad invSbox) s

/-- `ShiftRows` (R121): `s'[r][c] = s[r][(c + r) mod 4]`. -/
def shiftRows (s : AesBlock) : AesBlock :=
  ⟨⟨s.c0.b0, s.c1.b1, s.c2.b2, s.c3.b3⟩, ⟨s.c1.b0, s.c2.b1, s.c3.b2, s.c0.b3⟩,
    ⟨s.c2.b0, s.c3.b1, s.c0.b2, s.c1.b3⟩, ⟨s.c3.b0, s.c0.b1, s.c1.b2, s.c2.b3⟩⟩

/-- `InvShiftRows` (R124): `s'[r][c] = s[r][(c - r) mod 4]`. -/
def invShiftRows (s : AesBlock) : AesBlock :=
  ⟨⟨s.c0.b0, s.c3.b1, s.c2.b2, s.c1.b3⟩, ⟨s.c1.b0, s.c0.b1, s.c3.b2, s.c2.b3⟩,
    ⟨s.c2.b0, s.c1.b1, s.c0.b2, s.c3.b3⟩, ⟨s.c3.b0, s.c2.b1, s.c1.b2, s.c0.b3⟩⟩

/-- `MixColumns` on one column (R121). -/
def mixQuad (q : Quad) : Quad :=
  ⟨xtime q.b0 ^^^ mul3 q.b1 ^^^ q.b2 ^^^ q.b3, q.b0 ^^^ xtime q.b1 ^^^ mul3 q.b2 ^^^ q.b3,
    q.b0 ^^^ q.b1 ^^^ xtime q.b2 ^^^ mul3 q.b3, mul3 q.b0 ^^^ q.b1 ^^^ q.b2 ^^^ xtime q.b3⟩

/-- `InvMixColumns` on one column (R124). -/
def invMixQuad (q : Quad) : Quad :=
  ⟨mul14 q.b0 ^^^ mul11 q.b1 ^^^ mul13 q.b2 ^^^ mul9 q.b3, mul9 q.b0 ^^^ mul14 q.b1 ^^^ mul11 q.b2 ^^^ mul13 q.b3,
    mul13 q.b0 ^^^ mul9 q.b1 ^^^ mul14 q.b2 ^^^ mul11 q.b3, mul11 q.b0 ^^^ mul13 q.b1 ^^^ mul9 q.b2 ^^^ mul14 q.b3⟩

/-- `MixColumns` (R121). -/
def mixColumns (s : AesBlock) : AesBlock := mapCols mixQuad s

/-- `InvMixColumns` (R124). -/
def invMixColumns (s : AesBlock) : AesBlock := mapCols invMixQuad s

/-- `AddRoundKey` with the four words of a round key (R121). -/
def addRoundKey (s k : AesBlock) : AesBlock :=
  ⟨xorQuad s.c0 k.c0, xorQuad s.c1 k.c1, xorQuad s.c2 k.c2, xorQuad s.c3 k.c3⟩

/-! ### Key expansion (42_cipher.md R122) -/

/-- `RCON[j + 1]` (R122): `RCON[1] = 1`, `RCON[j+1] = xtime(RCON[j])`. -/
def rcon : Nat → Byte
  | 0 => 1
  | j + 1 => xtime (rcon j)

/-- `RotWord` (R122). -/
def rotWord (q : Quad) : Quad := ⟨q.b1, q.b2, q.b3, q.b0⟩

/-- The word `t` of R122 for `i mod 4 = 0`: RotWord, SubWord, then the round constant into byte 0. -/
def keyCore (rc : Byte) (t : Quad) : Quad :=
  xorQuad (mapQuad sbox (rotWord t)) ⟨rc, 0, 0, 0⟩

/-- Words `w[4n+4..4n+7]` from `w[4n..4n+3]` (R122): each is the word four places back XORed with the word before it,
the latter transformed for the first of the four. -/
def nextRoundKey (rc : Byte) (k : AesBlock) : AesBlock :=
  let w0 := xorQuad k.c0 (keyCore rc k.c3)
  let w1 := xorQuad k.c1 w0
  let w2 := xorQuad k.c2 w1
  let w3 := xorQuad k.c3 w2
  ⟨w0, w1, w2, w3⟩

/-- Round key `n`: the words `w[4n..4n+3]` of the expansion (R121, R122). -/
def roundKey (key : AesBlock) : Nat → AesBlock
  | 0 => key
  | n + 1 => nextRoundKey (rcon n) (roundKey key n)

/-! ### The cipher (42_cipher.md R123) and the inverse cipher (R125) -/

/-- The state after the first `AddRoundKey` and rounds 1 to `n` (R123). -/
def encRounds (key inp : AesBlock) : Nat → AesBlock
  | 0 => addRoundKey inp (roundKey key 0)
  | n + 1 => addRoundKey (mixColumns (shiftRows (subBytes (encRounds key inp n)))) (roundKey key (n + 1))

/-- `aes128_enc` on columns (R123): nine full rounds, then one without MixColumns. -/
def encBlock (key inp : AesBlock) : AesBlock :=
  addRoundKey (shiftRows (subBytes (encRounds key inp 9))) (roundKey key 10)

/-- The rounds `n`, `n - 1`, …, 1 of the inverse cipher, then its last `AddRoundKey` (R125). -/
def decRounds (key : AesBlock) : Nat → AesBlock → AesBlock
  | 0, s => addRoundKey (invSubBytes (invShiftRows s)) (roundKey key 0)
  | n + 1, s => decRounds key n (invMixColumns (addRoundKey (invSubBytes (invShiftRows s)) (roundKey key (n + 1))))

/-- `aes128_dec` on columns (R125). -/
def decBlock (key inp : AesBlock) : AesBlock :=
  decRounds key 9 (addRoundKey inp (roundKey key 10))

/-- `aes128_enc(key, in)` on byte strings of 16 bytes (42_cipher.md R115, R123). -/
def aes128Enc (key inp : Bytes) : Bytes :=
  blockBytes (encBlock (blockOfBytes key) (blockOfBytes inp))

/-- `aes128_dec(key, in)` on byte strings of 16 bytes (42_cipher.md R125). -/
def aes128Dec (key inp : Bytes) : Bytes :=
  blockBytes (decBlock (blockOfBytes key) (blockOfBytes inp))

/-- The key is usable: `KEYLEN = 16` (42_cipher.md R116). -/
def keyUsable (s : State) : Bool :=
  s.keylen == 16#8

/-- `AESENC` (42_cipher.md R128). -/
def execAesenc (s : State) : Host.Outcome State Fault Refusal :=
  .next (if keyUsable s then
    respond .ok 16#24 (memWrite ctBase (aes128Enc s.key.toList (memRead s blkBase blockLen)) s)
  else raiseError .cryptoError 0#24 s)

/-- `AESDEC` (42_cipher.md R129). -/
def execAesdec (s : State) : Host.Outcome State Fault Refusal :=
  .next (if keyUsable s then
    respond .ok 16#24 (memWrite blkBase (aes128Dec s.key.toList (memRead s ctBase blockLen)) s)
  else raiseError .cryptoError 0#24 s)

end Sys2Proof.Machine
end

