-- ==== Sys2Proof/Machine/ModHex.lean ====
section
/-! DEFINITION. The ModHex Codec and the commands MHENC and MHDEC (43_modhex.md). -/

namespace Sys2Proof.Machine

/-- The character codes of "cbdefghijklnrtuv", in the order of the values 0 to 15 (43_modhex.md R140, R144). -/
def mhTable : Bytes :=
  [0x63, 0x62, 0x64, 0x65, 0x66, 0x67, 0x68, 0x69, 0x6A, 0x6B, 0x6C, 0x6E, 0x72, 0x74, 0x75, 0x76]

/-- `MH[v]` (43_modhex.md R140). -/
def mhChar (v : BitVec 4) : Byte :=
  mhTable.getD v.toNat 0

/-- The value of a character code, if it is one of the sixteen (43_modhex.md R144). -/
def mhVal (c : Byte) : Option (BitVec 4) :=
  match c.toNat with
  | 0x62 => some 1
  | 0x63 => some 0
  | 0x64 => some 2
  | 0x65 => some 3
  | 0x66 => some 4
  | 0x67 => some 5
  | 0x68 => some 6
  | 0x69 => some 7
  | 0x6A => some 8
  | 0x6B => some 9
  | 0x6C => some 10
  | 0x6E => some 11
  | 0x72 => some 12
  | 0x74 => some 13
  | 0x75 => some 14
  | 0x76 => some 15
  | _ => none

/-- `modhex_enc(bytes)` (43_modhex.md R141): high nibble first. -/
def modhexEnc : Bytes → Bytes
  | [] => []
  | b :: bs => mhChar (highNibble b) :: mhChar (lowNibble b) :: modhexEnc bs

/-- `modhex_dec(chars)` (43_modhex.md R142), `none` for InvalidEncoding: an odd length, or a character outside the
alphabet. Both are the same error, so their order cannot be observed. -/
def modhexDec : Bytes → Option Bytes
  | [] => some []
  | [_] => none
  | h :: l :: cs =>
    match mhVal h, mhVal l, modhexDec cs with
    | some a, some b, some bs => some ((a ++ b) :: bs)
    | _, _, _ => none

/-- `MHENC src, len, dst` (43_modhex.md R146). A length above 128 has no encoding (30_encoding.md R76; log 11:
DEDUCED, safe). -/
def execMhenc (src len dst : Byte) (s : State) : Host.Outcome State Fault Refusal :=
  .next (if len.toNat ≤ 128 then
    respond .ok (BitVec.ofNat 24 (2 * len.toNat)) (memWrite dst (modhexEnc (memRead s src len.toNat)) s)
  else raiseError .illegalCommand 0#24 s)

/-- `MHDEC src, len, dst` (43_modhex.md R147). -/
def execMhdec (src len dst : Byte) (s : State) : Host.Outcome State Fault Refusal :=
  .next (match modhexDec (memRead s src len.toNat) with
    | some bs => respond .ok (BitVec.ofNat 24 (len.toNat / 2)) (memWrite dst bs s)
    | none => raiseError .invalidEncoding 0#24 s)

end Sys2Proof.Machine
end

