-- ==== Sys2Proof/Machine/Session.lean ====
section
/-! DEFINITION. The Session State Machine: `advanceSessionCounter`, `onInsert`, `onClick` (44_session.md). -/

namespace Sys2Proof.Machine

/-- `CTR <- c` (10_state.md R26). -/
def setCtr (c : BitVec 16) (s : State) : State :=
  { s with ctr := c }

/-- `USE <- u` (10_state.md R27). -/
def setUse (u : BitVec 8) (s : State) : State :=
  { s with sessionUse := u }

/-- `advanceSessionCounter()` (44_session.md R155): refused at 0xFFFF, nothing changed. -/
def advance (s : State) : Proc :=
  if s.ctr = 0xFFFF#16 then .raised .sessionCounterExhausted s else .done (setCtr (s.ctr + 1#16) s)

/-- `StoreSave(CTR)`, and StorageError if it fails (44_session.md R157, R159, R163). -/
def saveCounter (s : State) : Proc :=
  if saveAnswer s then .done (afterSave s) else .raised .storageError (afterSave s)

/-- The steps `onInsert` and the wrap of `onClick` share: `advance()`, `USE <- 0`, `StoreSave(CTR)` (44_session.md R157,
R159). The registers are updated before the save goes out, so that a failed save leaves the new pair (R158, R160). -/
def advanceAndSave (s : State) : Proc :=
  match advance s with
  | .raised e t => .raised e t
  | .done t => saveCounter (setUse 0#8 t)

/-- `onInsert()` (44_session.md R157): `TSOFF` is redrawn first, whatever follows (R158). -/
def onInsert (s : State) : Proc :=
  advanceAndSave (redrawOffset s)

/-- `onClick()` (44_session.md R159): the comparison is unsigned and strict, and the wrap keeps `TSOFF` (R161). -/
def onClick (s : State) : Proc :=
  if s.sessionUse < 0xFF#8 then .done (setUse (s.sessionUse + 1#8) s) else advanceAndSave s

end Sys2Proof.Machine
end

