-- ==== Sys2Proof/Machine/Controller.lean ====
section
/-! DEFINITION. The Token Controller: the commands INSERT and CLICK (45_controller.md). -/

namespace Sys2Proof.Machine

/-- `KEY[i] <- key[i]` for i < min(KEYLEN, 16), 0x00 otherwise (10_state.md R25, 45_controller.md R170). -/
def keyRegister (k : Bytes) : Vector Byte 16 :=
  Vector.ofFn fun i => k.getD i.val 0

/-- The identity registers and `CTR` take the loaded mapping (45_controller.md R170). -/
def loadIdentity (m : Config.StoreRecord) (s : State) : State :=
  { s with
    pubid := m.publicId
    privid := m.privateId
    key := keyRegister m.aesKey.val
    keylen := BitVec.ofNat 8 m.aesKey.val.length
    ctr := m.sessionCounter }

/-- `READY <- 1` (45_controller.md R170). -/
def setReady (s : State) : State :=
  { s with ready := true }

/-- INSERT up to its response (45_controller.md R170), without `LASTERR`. -/
def insertBody (s : State) : Proc :=
  match loadAnswer s with
  | none => .raised .storageError (afterLoad s)
  | some m =>
    match onInsert (loadIdentity m (afterLoad s)) with
    | .raised e t => .raised e t
    | .done t => .done (setReady t)

/-- INSERT up to its response, `LASTERR` set (45_controller.md R170, R171). -/
def insertProc (s : State) : Proc :=
  latchOutcome (insertBody s)

/-- `INSERT` (45_controller.md R170). -/
def execInsert (s : State) : Host.Outcome State Fault Refusal :=
  .next (answerProc (fun t => zext24 t.ctr) (insertProc s))

/-- The reset sequence is over (70_reset_and_hazards.md R221). -/
def finishBoot (s : State) : State :=
  { s with booting := false }

/-- Reset stage 2 (70_reset_and_hazards.md R221): one INSERT whose response is discarded and whose outcome is left in
`LASTERR` and `READY`. -/
def implicitInsert (s : State) : State :=
  match insertProc s with
  | .done t => finishBoot t
  | .raised _ t => finishBoot t

/-- The OTP string `PUBID ++ modhex_enc(ct)` for a plaintext block (45_controller.md R172 step 5, R175). -/
def otpString (s : State) (blk : Bytes) : Bytes :=
  s.pubid.toList ++ modhexEnc (aes128Enc s.key.toList blk)

/-- Steps 3 to 5 of CLICK on the block that step 2 built (45_controller.md R172): the self-validation, the key check, the
encryption, and the OTP into OUT. -/
def emitOtp (blk : Bytes) (s : State) : Proc :=
  if validBlock blk then
    if keyUsable s then .done (memWrite outBase (otpString s blk) s) else .raised .cryptoError s
  else .raised .invalidBlock s

/-- CLICK up to its response (45_controller.md R172, R173), without `LASTERR`. The block carries the registers that
`onClick` has just written. -/
def clickBody (s : State) : Proc :=
  if s.ready then
    match onClick s with
    | .raised e t => .raised e t
    | .done t => emitOtp (blockNow t) (afterDraws t)
  else .raised .notReady s

/-- CLICK up to its response, `LASTERR` set (45_controller.md R172). -/
def clickProc (s : State) : Proc :=
  latchOutcome (clickBody s)

/-- `CLICK` (45_controller.md R172). -/
def execClick (s : State) : Host.Outcome State Fault Refusal :=
  .next (answerProc (fun _ => BitVec.ofNat 24 otpLen) (clickProc s))

end Sys2Proof.Machine
end

