-- ==== Sys2Proof/Machine/Access.lean ====
section
/-! DEFINITION. Host access: the commands RDB, WRB and RDCSR (46_access.md), and the response to an illegal word
(30_encoding.md R76). -/

namespace Sys2Proof.Machine

/-- `RDB addr` (46_access.md R185). -/
def execRdb (addr : Byte) (s : State) : Host.Outcome State Fault Refusal :=
  .next (respond .ok (zext24 (readByte s addr)) s)

/-- `WRB addr, data` (46_access.md R186). -/
def execWrb (addr data : Byte) (s : State) : Host.Outcome State Fault Refusal :=
  .next (respond .ok 0#24 (memWrite addr [data] s))

/-- `RDCSR n` (46_access.md R187). A number above 4 has no encoding (10_state.md R32, 30_encoding.md R76; log 11:
DEDUCED, safe). -/
def execRdcsr (n : Byte) (s : State) : Host.Outcome State Fault Refusal :=
  .next (match csrValue s n with
    | some v => respond .ok v s
    | none => raiseError .illegalCommand 0#24 s)

/-- A word that decodes to `Illegal` (30_encoding.md R76, 60_exceptions.md R202): no effect but the response. -/
def illegalWord (s : State) : State :=
  raiseError .illegalCommand 0#24 s

end Sys2Proof.Machine
end

