-- ==== Sys2Proof/Machine/Dispatch.lean ====
section
/-! DEFINITION. The dispatch of a decoded command to its meaning, one arm a constructor. -/

namespace Sys2Proof.Machine

def exec (i : Instr) (s : State) : Host.Outcome State Fault Refusal :=
  match i with
  | .insert => Sys2Proof.Machine.execInsert s
  | .click => Sys2Proof.Machine.execClick s
  | .crc16 src len => Sys2Proof.Machine.execCrc16 src len s
  | .build => Sys2Proof.Machine.execBuild s
  | .validate => Sys2Proof.Machine.execValidate s
  | .aesenc => Sys2Proof.Machine.execAesenc s
  | .aesdec => Sys2Proof.Machine.execAesdec s
  | .mhenc src len dst => Sys2Proof.Machine.execMhenc src len dst s
  | .mhdec src len dst => Sys2Proof.Machine.execMhdec src len dst s
  | .rdb addr => Sys2Proof.Machine.execRdb addr s
  | .wrb addr data => Sys2Proof.Machine.execWrb addr data s
  | .rdcsr n => Sys2Proof.Machine.execRdcsr n s

end Sys2Proof.Machine
end

