-- ==== Sys2Proof/Machine/Step.lean ====
section
/-! DEFINITION. One step of the machine: one whole command (00_scope.md R12), the implicit INSERT of reset
(70_reset_and_hazards.md R221), an assertion of reset (R220), or nothing when the host presents nothing
(60_exceptions.md R215). -/

namespace Sys2Proof.Machine

/-- One step. Stage 2 of reset comes before any host command (R221); then the host's inputs are taken in order
(10_state.md R22), a word that decodes to nothing being answered with IllegalCommand (30_encoding.md R76). -/
def step (s : State) : Host.Outcome State Fault Refusal :=
  if s.booting then .next (implicitInsert s)
  else
    match s.inbox with
    | [] => .next s
    | .assertReset :: rest => .next (assertReset { s with inbox := rest })
    | .command w :: rest =>
      match decode w with
      | .ok i => exec i { s with inbox := rest }
      | .error _ => .next (illegalWord { s with inbox := rest })

/-- The state with the command word `w` of `nbits` bits presented next. The block runs what the host presents, once the
implicit INSERT of reset has been done, so that both are set here (log 3: DEDUCED, unsafe for a
claim about a run that starts so). -/
def State.withFetchWord (s : State) (nbits w : Nat) : State :=
  { s with booting := false, inbox := .command (BitVec.ofNat 32 (w % 2 ^ nbits)) :: s.inbox }

end Sys2Proof.Machine
end

