-- ==== Sys2Proof/Safety.lean ====
section
/-! DEFINITION. What the statements about the block are said in: a step that completes, a legal response, the invariant of
the state, the bytes a command stores to, a run of clicks, and the reference Store of 20_memory.md R66. -/

namespace Sys2Proof.Machine

/-- The step ends in a next state: no fault and no refusal. -/
def completes (o : Host.Outcome State Fault Refusal) : Prop :=
  ∃ t, o = .next t

/-- `RSP[3:0]` = `ERR` (30_encoding.md R74). -/
def rspErr (w : Word) : BitVec 4 := w.extractLsb' 0 4

/-- `RSP[31:8]` = `VAL` (30_encoding.md R74). -/
def rspVal (w : Word) : BitVec 24 := w.extractLsb' 8 24

/-- A response that 30_encoding.md R74 and 60_exceptions.md R196 allow: `RSP[7:4]` = 0, no code above 7, and `VAL` = 0
with every error but InvalidBlock. -/
def legalResponse (w : Word) : Bool :=
  w.extractLsb' 4 4 == 0#4 && decide ((rspErr w).toNat ≤ 7) &&
    (rspErr w == 0#4 || rspErr w == errCode .invalidBlock || rspVal w == 0#24)

/-- A code that INSERT or CLICK can leave in `LASTERR`: OK, StorageError, SessionCounterExhausted, CryptoError or NotReady
(10_state.md R31, 60_exceptions.md R196 to R203). -/
def legalLasterr (e : BitVec 4) : Bool :=
  e == errCode .ok || e == errCode .storageError || e == errCode .sessionCounterExhausted ||
    e == errCode .cryptoError || e == errCode .notReady

/-- Every register is at its cold value (10_state.md R45, 70_reset_and_hazards.md R220). -/
def coldRegisters (s : State) : Prop :=
  (∀ i : Fin Config.pubidLen, s.pubid[i] = 0#8) ∧ s.privid = 0#48 ∧ (∀ i : Fin 16, s.key[i] = 0#8) ∧ s.keylen = 0#8 ∧
    s.ctr = 0#16 ∧ s.sessionUse = 0#8 ∧ s.tsoff = 0#24 ∧ s.ready = false ∧ s.lasterr = 0#4

/-- The identity registers, `KEYLEN` among them, hold the loaded mapping (10_state.md R23 to R25). -/
def identityLoaded (m : Config.StoreRecord) (s : State) : Prop :=
  s.pubid = m.publicId ∧ s.privid = m.privateId ∧
    (∀ i : Fin 16, s.key[i] = if h : i.val < m.aesKey.val.length then m.aesKey.val[i.val] else 0#8) ∧
    s.keylen.toNat = m.aesKey.val.length

/-- Two states agree in the identity registers (10_state.md R23 to R25). -/
def sameIdentity (s t : State) : Prop :=
  t.pubid = s.pubid ∧ t.privid = s.privid ∧ t.key = s.key ∧ t.keylen = s.keylen

/-- Two states agree in the session registers and the status bits (10_state.md R26 to R31). -/
def sameSession (s t : State) : Prop :=
  t.ctr = s.ctr ∧ t.sessionUse = s.sessionUse ∧ t.tsoff = s.tsoff ∧ t.ready = s.ready ∧ t.lasterr = s.lasterr

/-- The invariant that every step keeps: BM in its canonical form, `LASTERR` a code of INSERT or CLICK, `KEY` zero beyond
`KEYLEN` (10_state.md R25), no READY while the implicit INSERT is owed (R30, 70_reset_and_hazards.md R221), and every
response legal (30_encoding.md R74). -/
structure Inv (s : State) : Prop where
  /-- BM is in canonical form. -/
  memory : s.bm.wf = true
  /-- `LASTERR` holds a code of INSERT or CLICK. -/
  lasterr : legalLasterr s.lasterr = true
  /-- `KEY[i]` is 0 for `i` at or beyond `KEYLEN`. -/
  keyPadding : ∀ i : Fin 16, s.keylen.toNat ≤ i.val → s.key[i] = 0#8
  /-- READY is 0 until the reset INSERT has run. -/
  booting : s.booting = true → s.ready = false
  /-- Every response returned so far is legal. -/
  responses : ∀ w ∈ s.rsps, legalResponse w = true

/-- Where a command stores in BM, as first address and number of bytes (20_memory.md R47, R55, R56). CLICK stores there
only when it succeeds. -/
def storedRange (s : State) : Instr → Byte × Nat
  | .insert => (0#8, 0)
  | .click => (outBase, otpLen)
  | .crc16 _ _ => (0#8, 0)
  | .build => (blkBase, if s.ready then blockLen else 0)
  | .validate => (0#8, 0)
  | .aesenc => (ctBase, if keyUsable s then blockLen else 0)
  | .aesdec => (blkBase, if keyUsable s then blockLen else 0)
  | .mhenc _ len dst => (dst, if len.toNat ≤ 128 then 2 * len.toNat else 0)
  | .mhdec src len dst => (dst, if (modhexDec (memRead s src len.toNat)).isSome then len.toNat / 2 else 0)
  | .rdb _ => (0#8, 0)
  | .wrb addr _ => (addr, 1)
  | .rdcsr _ => (0#8, 0)

/-- The address lies in the range of `n` bytes at `base`, addresses modulo 256 (30_encoding.md R75). -/
def inRange (a base : Byte) (n : Nat) : Bool :=
  decide ((a - base).toNat < n)

/-- `k` CLICKs in a row, stopping at the first that does not complete. -/
def clicks : Nat → State → Host.Outcome State Fault Refusal
  | 0, s => .next s
  | k + 1, s =>
    match exec .click s with
    | .next t => clicks k t
    | .fault r => .fault r
    | .refused r => .refused r

/-! ### The Store, seen through the calls made on it -/

/-- Whether a call is a `StoreLoad()`. -/
def isLoad : StoreCall → Bool
  | .load _ => true
  | .save _ _ => false

/-- Whether a call is a `StoreSave`. -/
def isSave : StoreCall → Bool
  | .load _ => false
  | .save _ _ => true

/-- The counter the reference Store holds after a list of calls, newest first: that of the last successful save, and the
provisioned one before any (20_memory.md R66). -/
def persisted (provisioned : BitVec 16) : List StoreCall → BitVec 16
  | [] => provisioned
  | .save c true :: _ => c
  | .save _ false :: l => persisted provisioned l
  | .load _ :: l => persisted provisioned l

/-- The answers in a list of calls are those of the reference Store provisioned with `r` (20_memory.md R66): a load that
succeeds returns the record with the persisted counter. Whether a call fails is free. -/
def refStore (r : Config.StoreRecord) : List StoreCall → Prop
  | [] => True
  | .load (some m) :: l => m = { r with sessionCounter := persisted r.sessionCounter l } ∧ refStore r l
  | .load none :: l => refStore r l
  | .save _ _ :: l => refStore r l

/-- What the last Store call says of `CTR` once the reset INSERT has run (44_session.md R163): a save carried it, and a
load that was followed by no save loaded 0xFFFF (R155). -/
def saveTracksCounter (s : State) : Prop :=
  s.booting = false →
    match s.storeLog with
    | [] => True
    | .save c _ :: _ => s.ctr = c
    | .load none :: _ => True
    | .load (some m) :: _ => m.sessionCounter = 0xFFFF#16 ∧ s.ctr = 0xFFFF#16

/-- The registers are never behind the reference Store while CLICK can run (70_reset_and_hazards.md R224). -/
def counterNotBehind (r : Config.StoreRecord) (s : State) : Prop :=
  s.ready = true → (persisted r.sessionCounter s.storeLog).toNat ≤ s.ctr.toNat

end Sys2Proof.Machine
end

