-- ==== Sys2Proof/Certificates/Slice0/Obligations.lean ====
section
/-! DEFINITION. The statements about the block, for the provers. Each docstring names the rule of spec/ it rests on, and
the log entry where it rests on a choice of the model. -/

open Sys2Proof Sys2Proof.Machine

/-! ### Decoding and encoding (30_encoding.md) -/

/-- Decoding the word of a well-formed command gives the command back (R70 to R73). -/
def Obligations.DecodeInvertsEncode : Prop :=
  ∀ i : Instr, i.wf = true → decode (encode i) = .ok i

/-- A word that decodes is the word of the well-formed command it decodes to: no bit is ignored, and every word has one
reading (R71, R73, D1). -/
def Obligations.DecodedWordIsItsEncoding : Prop :=
  ∀ (w : Word) (i : Instr), decode w = .ok i → i.wf = true ∧ encode i = w

/-- The legal words are those that match a row of spec/opcode_table.json and meet the row's constraint (30_encoding.md,
R72, R76). -/
def Obligations.LegalWordsAreTheTableRows : Prop :=
  ∀ w : Word, (∃ i, decode w = .ok i) ↔
    (∃ r ∈ [((0xFFFFFFFF : Word), (0x00000001 : Word)), (0xFFFFFFFF, 0x00000002), (0xFF0000FF, 0x00000010),
        (0xFFFFFFFF, 0x00000011), (0xFFFFFFFF, 0x00000012), (0xFFFFFFFF, 0x00000020), (0xFFFFFFFF, 0x00000021),
        (0x000000FF, 0x00000030), (0x000000FF, 0x00000031), (0xFFFF00FF, 0x00000040), (0xFF0000FF, 0x00000041),
        (0xFFFF00FF, 0x00000042)], w &&& r.1 = r.2) ∧
      (w.toNat % 256 = 0x30 → w.toNat / 2 ^ 16 % 256 ≤ 128) ∧
      (w.toNat % 256 = 0x42 → w.toNat / 2 ^ 8 % 256 ≤ 4)

/-- The words that R78 writes out decode to the commands it names. -/
def Obligations.WrittenOutWordsDecode : Prop :=
  decode 0x00000001 = .ok .insert ∧ decode 0x00000002 = .ok .click ∧ decode 0x00094C10 = .ok (.crc16 0x4C 9) ∧
    decode 0x00000011 = .ok .build ∧ decode 0x00000012 = .ok .validate ∧ decode 0x00000020 = .ok .aesenc ∧
    decode 0x00000021 = .ok .aesdec ∧ decode 0x2C101030 = .ok (.mhenc 0x10 16 0x2C) ∧
    decode 0x60045031 = .ok (.mhdec 0x50 4 0x60) ∧ decode 0x00002040 = .ok (.rdb 0x20) ∧
    decode 0x00660041 = .ok (.wrb 0x00 0x66) ∧ decode 0x00000142 = .ok (.rdcsr 1)

/-- A step at a state whose next input is a word that decodes runs the decoded command on the state with that input taken
(R70, R73, R60; the list of inputs is the model's, log 2). -/
def Obligations.StepRunsTheDecodedCommand : Prop :=
  ∀ (s : State) (w : Word) (rest : List HostInput) (i : Instr),
    s.booting = false → s.inbox = .command w :: rest → decode w = .ok i →
      step s = exec i { s with inbox := rest }

/-- A step at a state whose next input is an illegal word changes nothing and answers IllegalCommand with `VAL` 0
(R76, 60_exceptions.md R202; the lists of inputs and of responses are the model's, log 2). -/
def Obligations.IllegalWordHasNoEffect : Prop :=
  ∀ (s : State) (w : Word) (rest : List HostInput) (e : DecodeError),
    s.booting = false → s.inbox = .command w :: rest → decode w = .error e →
      step s = .next { s with inbox := rest, rsps := 0x00000006#32 :: s.rsps }

/-- The response word is `VAL`, four zero bits and the error code, and the codes are those of 60_exceptions.md R196
(30_encoding.md R74). -/
def Obligations.ResponseWordLayout : Prop :=
  (∀ (e : ErrCode) (v : BitVec 24), (packRsp e v).toNat = v.toNat * 256 + (errCode e).toNat) ∧
    [ErrCode.ok, .storageError, .sessionCounterExhausted, .cryptoError, .invalidEncoding, .invalidBlock,
      .illegalCommand, .notReady].map errCode = [0, 1, 2, 3, 4, 5, 6, 7]

/-- No step of the block faults or refuses, from any state (00_scope.md R13). -/
def Obligations.EveryStepCompletes : Prop :=
  ∀ s : State, completes (step s)

/-- Every command, well formed or not, ends in a next state with exactly one more response, which R74 and R196 allow
(00_scope.md R13). -/
def Obligations.EveryCommandAnswersOnce : Prop :=
  ∀ (i : Instr) (s : State), ∃ t w, exec i s = .next t ∧ t.rsps = w :: s.rsps ∧ legalResponse w = true

/-! ### Reset (70_reset_and_hazards.md) -/

/-- Power-up and an assertion of reset leave every register at its cold value and nothing known of BM, and do not touch
the Store (R220; what BM holds is a free value, log 4; the input that asserts reset is the model's, log 5). -/
def Obligations.ResetLeavesColdRegisters : Prop :=
  (coldRegisters State.reset ∧ State.reset.bm = []) ∧
    ∀ (s : State) (rest : List HostInput), s.booting = false → s.inbox = .assertReset :: rest →
      ∃ t, step s = .next t ∧ coldRegisters t ∧ t.bm = [] ∧ t.storeLog = s.storeLog ∧ t.env = s.env ∧
        t.inbox = rest ∧ t.rsps = s.rsps ∧ t.booting = true

/-- The step that follows reset is one INSERT, with its response discarded, before any host input is taken (R221). -/
def Obligations.ResetRunsOneInsert : Prop :=
  State.reset.booting = true ∧
    ∀ s : State, s.booting = true → ∃ u, exec .insert s = .next u ∧ u.inbox = s.inbox ∧
      step s = .next { u with booting := false, rsps := s.rsps }

/-- The state after the reset sequence, for each answer of the Store (R221, 10_state.md R45). -/
def Obligations.ResetSequenceOutcomes : Prop :=
  ∀ s : State, coldRegisters s → s.booting = true → ∃ t, step s = .next t ∧ t.booting = false ∧ t.bm = s.bm ∧
    (loadAnswer s = none → coldRegisters { t with lasterr := 0#4 } ∧ t.lasterr = 1#4) ∧
    (∀ m, loadAnswer s = some m → identityLoaded m t ∧ t.sessionUse = 0#8 ∧ t.tsoff = draw24Answer s ∧
      (m.sessionCounter = 0xFFFF#16 → t.ctr = 0xFFFF#16 ∧ t.ready = false ∧ t.lasterr = 2#4) ∧
      (m.sessionCounter ≠ 0xFFFF#16 → t.ctr = m.sessionCounter + 1#16 ∧
        (saveAnswer s = true → t.ready = true ∧ t.lasterr = 0#4) ∧
        (saveAnswer s = false → t.ready = false ∧ t.lasterr = 1#4)))

/-! ### INSERT (45_controller.md R170, R171; 44_session.md R157, R158) -/

/-- A load that fails changes `LASTERR` alone and answers StorageError (R171). -/
def Obligations.InsertLoadFails : Prop :=
  ∀ s : State, loadAnswer s = none →
    exec .insert s = .next { s with
      lasterr := 1#4
      env := { s.env with loads := s.env.loads.next }
      storeLog := .load none :: s.storeLog
      rsps := 0x00000001#32 :: s.rsps }

/-- INSERT that loads a counter below 0xFFFF and saves: identity loaded, the loaded counter plus 1, use 0, a fresh offset,
READY, `LASTERR` 0, one load and one save, and the new counter as the answer (R170, R171). -/
def Obligations.InsertSucceeds : Prop :=
  ∀ (s : State) (m : Config.StoreRecord), loadAnswer s = some m → m.sessionCounter ≠ 0xFFFF#16 → saveAnswer s = true →
    ∃ t, exec .insert s = .next t ∧ identityLoaded m t ∧
      t = { s with
        pubid := t.pubid, privid := t.privid, key := t.key, keylen := t.keylen
        ctr := m.sessionCounter + 1#16
        sessionUse := 0#8
        tsoff := draw24Answer s
        ready := true
        lasterr := 0#4
        env := { s.env with
          loads := s.env.loads.next, draws24 := s.env.draws24.next, saves := s.env.saves.next }
        storeLog := .save (m.sessionCounter + 1#16) true :: .load (some m) :: s.storeLog
        rsps := packRsp .ok ((m.sessionCounter + 1#16).setWidth 24) :: s.rsps }

/-- INSERT that loads 0xFFFF: refused after the offset is redrawn; the use is not reset, READY is kept, nothing is saved
(R171, 44_session.md R155, R158). -/
def Obligations.InsertAtCounterMaximum : Prop :=
  ∀ (s : State) (m : Config.StoreRecord), loadAnswer s = some m → m.sessionCounter = 0xFFFF#16 →
    ∃ t, exec .insert s = .next t ∧ identityLoaded m t ∧
      t = { s with
        pubid := t.pubid, privid := t.privid, key := t.key, keylen := t.keylen
        ctr := 0xFFFF#16
        tsoff := draw24Answer s
        lasterr := 2#4
        env := { s.env with loads := s.env.loads.next, draws24 := s.env.draws24.next }
        storeLog := .load (some m) :: s.storeLog
        rsps := 0x00000002#32 :: s.rsps }

/-- INSERT whose save fails: the registers hold the new pair, READY is kept, StorageError (R171, 44_session.md R158). -/
def Obligations.InsertSaveFails : Prop :=
  ∀ (s : State) (m : Config.StoreRecord), loadAnswer s = some m → m.sessionCounter ≠ 0xFFFF#16 → saveAnswer s = false →
    ∃ t, exec .insert s = .next t ∧ identityLoaded m t ∧
      t = { s with
        pubid := t.pubid, privid := t.privid, key := t.key, keylen := t.keylen
        ctr := m.sessionCounter + 1#16
        sessionUse := 0#8
        tsoff := draw24Answer s
        lasterr := 1#4
        env := { s.env with
          loads := s.env.loads.next, draws24 := s.env.draws24.next, saves := s.env.saves.next }
        storeLog := .save (m.sessionCounter + 1#16) false :: .load (some m) :: s.storeLog
        rsps := 0x00000001#32 :: s.rsps }

/-! ### CLICK (45_controller.md R172 to R176; 44_session.md R159, R160) -/

/-- CLICK and BUILD without READY answer NotReady; CLICK changes `LASTERR` alone, BUILD nothing (60_exceptions.md R203,
R205). -/
def Obligations.NotReadyRefusesClickAndBuild : Prop :=
  ∀ s : State, s.ready = false →
    exec .click s = .next { s with lasterr := 7#4, rsps := 0x00000007#32 :: s.rsps } ∧
    exec .build s = .next { s with rsps := 0x00000007#32 :: s.rsps }

/-- A CLICK below the last use advances the use alone and puts the OTP of the advanced registers into OUT
(R172, R173, R174, R175). -/
def Obligations.ClickEmitsOtp : Prop :=
  ∀ s : State, s.ready = true → s.sessionUse < 0xFF#8 → s.keylen = 16#8 →
    ∃ t, exec .click s = .next t ∧
      memRead t 0x20#8 44 = s.pubid.toList ++ modhexEnc (aes128Enc s.key.toList
        (buildBlock s.privid s.ctr (s.sessionUse + 1#8) (nowAnswer s) s.tsoff (draw16Answer s))) ∧
      (∀ a : Byte, inRange a 0x20#8 44 = false → readByte t a = readByte s a) ∧
      t = { s with
        sessionUse := s.sessionUse + 1#8
        bm := t.bm
        lasterr := 0#4
        env := { s.env with draws16 := s.env.draws16.next, nows := s.env.nows.next }
        rsps := 0x00002C00#32 :: s.rsps }

/-- A CLICK at the last use wraps: the counter advances, the use is 0, the offset is kept, the new counter is saved, and
the OTP carries the new pair (R172 to R174, 44_session.md R159, R161). -/
def Obligations.WrapClickEmitsOtp : Prop :=
  ∀ s : State, s.ready = true → s.sessionUse = 0xFF#8 → s.ctr ≠ 0xFFFF#16 → saveAnswer s = true → s.keylen = 16#8 →
    ∃ t, exec .click s = .next t ∧
      memRead t 0x20#8 44 = s.pubid.toList ++ modhexEnc (aes128Enc s.key.toList
        (buildBlock s.privid (s.ctr + 1#16) 0#8 (nowAnswer s) s.tsoff (draw16Answer s))) ∧
      (∀ a : Byte, inRange a 0x20#8 44 = false → readByte t a = readByte s a) ∧
      t = { s with
        ctr := s.ctr + 1#16
        sessionUse := 0#8
        bm := t.bm
        lasterr := 0#4
        env := { s.env with
          saves := s.env.saves.next, draws16 := s.env.draws16.next, nows := s.env.nows.next }
        storeLog := .save (s.ctr + 1#16) true :: s.storeLog
        rsps := 0x00002C00#32 :: s.rsps }

/-- A wrapping CLICK whose save fails leaves the new pair in the registers and emits no OTP (R174, 44_session.md R160). -/
def Obligations.WrapClickSaveFails : Prop :=
  ∀ s : State, s.ready = true → s.sessionUse = 0xFF#8 → s.ctr ≠ 0xFFFF#16 → saveAnswer s = false →
    exec .click s = .next { s with
      ctr := s.ctr + 1#16
      sessionUse := 0#8
      lasterr := 1#4
      env := { s.env with saves := s.env.saves.next }
      storeLog := .save (s.ctr + 1#16) false :: s.storeLog
      rsps := 0x00000001#32 :: s.rsps }

/-- A CLICK at (0xFFFF, 0xFF) is refused, whatever the key length, and consumes no draw, no clock reading and no Store
call (R174, 44_session.md R160, 60_exceptions.md R204). -/
def Obligations.ClickAtExhaustion : Prop :=
  ∀ s : State, s.ready = true → s.sessionUse = 0xFF#8 → s.ctr = 0xFFFF#16 →
    exec .click s = .next { s with lasterr := 2#4, rsps := 0x00000002#32 :: s.rsps }

/-- A CLICK with an unusable key advances the session as a good one does, then answers CryptoError and writes no OTP
(R173, R174, 70_reset_and_hazards.md R226). -/
def Obligations.BadKeyClickConsumesUse : Prop :=
  ∀ s : State, s.ready = true → s.keylen ≠ 16#8 →
    (s.sessionUse < 0xFF#8 → exec .click s = .next { s with
      sessionUse := s.sessionUse + 1#8
      lasterr := 3#4
      env := { s.env with draws16 := s.env.draws16.next, nows := s.env.nows.next }
      rsps := 0x00000003#32 :: s.rsps }) ∧
    (s.sessionUse = 0xFF#8 → s.ctr ≠ 0xFFFF#16 → saveAnswer s = true → exec .click s = .next { s with
      ctr := s.ctr + 1#16
      sessionUse := 0#8
      lasterr := 3#4
      env := { s.env with
        saves := s.env.saves.next, draws16 := s.env.draws16.next, nows := s.env.nows.next }
      storeLog := .save (s.ctr + 1#16) true :: s.storeLog
      rsps := 0x00000003#32 :: s.rsps })

/-- A CLICK that ends in an error leaves every byte of BM, OUT among them, and answers `VAL` 0
(70_reset_and_hazards.md R232, R174). -/
def Obligations.FailedClickKeepsOut : Prop :=
  ∀ s t : State, exec .click s = .next t → t.lasterr ≠ 0#4 →
    (∀ a : Byte, readByte t a = readByte s a) ∧ ∃ w, t.rsps = w :: s.rsps ∧ rspErr w = t.lasterr ∧ rspVal w = 0#24

/-- The self-validation of CLICK never fires, and CLICK never answers InvalidEncoding (R174, 41_block_codec.md R110,
43_modhex.md R145). -/
def Obligations.ClickNeverInvalidBlockOrEncoding : Prop :=
  ∀ s t : State, exec .click s = .next t → ∃ w, t.rsps = w :: s.rsps ∧ rspErr w ≠ 5#4 ∧ rspErr w ≠ 4#4

/-- Two successive successful CLICKs emit different OTPs, whatever the draws and the clock (R176). -/
def Obligations.SuccessiveOtpsDiffer : Prop :=
  ∀ s t u : State, exec .click s = .next t → t.lasterr = 0#4 → exec .click t = .next u → u.lasterr = 0#4 →
    memRead t 0x20#8 44 ≠ memRead u 0x20#8 44

/-- From use 0, k CLICKs bring the pair to (c + k div 256, k mod 256) while that counter is at most 0xFFFF, with one save
per wrap, whatever the Store answers and whatever the key (44_session.md R162(c), R160(b), R226). -/
def Obligations.ClicksCountInBase256 : Prop :=
  ∀ (k : Nat) (s : State), s.ready = true → s.sessionUse = 0#8 → s.ctr.toNat + k / 256 ≤ 0xFFFF →
    ∃ t, clicks k s = .next t ∧ t.ctr.toNat = s.ctr.toNat + k / 256 ∧ t.sessionUse.toNat = k % 256 ∧
      t.tsoff = s.tsoff ∧ t.storeLog.countP isSave = s.storeLog.countP isSave + k / 256 ∧
      t.storeLog.countP isLoad = s.storeLog.countP isLoad

/-- At (0xFFFF, 0) the device has exactly 255 more OTPs, with use 1 to 255, and then none: every later CLICK answers
SessionCounterExhausted (70_reset_and_hazards.md R229). -/
def Obligations.ExactlyTwoHundredFiftyFiveOtpsLeft : Prop :=
  ∀ s : State, s.ready = true → s.keylen = 16#8 → s.ctr = 0xFFFF#16 → s.sessionUse = 0#8 →
    (∀ k ≤ 255, ∃ t, clicks k s = .next t ∧ t.sessionUse.toNat = k ∧ t.ctr = 0xFFFF#16 ∧
      t.rsps = List.replicate k 0x00002C00#32 ++ s.rsps) ∧
    (∀ j, ∃ t, clicks (255 + j) s = .next t ∧ t.sessionUse = 0xFF#8 ∧ t.ctr = 0xFFFF#16 ∧
      t.rsps = List.replicate j 0x00000002#32 ++ (List.replicate 255 0x00002C00#32 ++ s.rsps))

/-! ### CRC16 (40_crc16.md) -/

/-- `CRC16 src, len` answers the CRC of the range and changes nothing (R95). -/
def Obligations.Crc16AnswersTheRange : Prop :=
  ∀ (s : State) (src len : Byte),
    exec (.crc16 src len) s = .next { s with
      rsps := packRsp .ok ((crc16 (memRead s src len.toNat) len.toNat).setWidth 24) :: s.rsps }

/-- The residue law: a byte string followed by the complement of its CRC, low byte first, has CRC 0xF0B8 (R93). -/
def Obligations.CrcResidueLaw : Prop :=
  ∀ d : Bytes, crc16 (d ++ [(~~~ crc16 d d.length).extractLsb' 0 8, (~~~ crc16 d d.length).extractLsb' 8 8])
    (d.length + 2) = 0xF0B8#16

/-- The laws of the CRC: the empty string, incremental evaluation, the prefix, linearity and bijectivity of the byte step,
and the table form (R92). -/
def Obligations.CrcLaws : Prop :=
  (∀ bs : Bytes, crc16 bs 0 = 0xFFFF#16) ∧
    (∀ x y : Bytes, crc16 (x ++ y) (x.length + y.length) = y.foldl crcByte (crc16 x x.length)) ∧
    (∀ (x y : Bytes) (n : Nat), x.take n = y.take n → crc16 x n = crc16 y n) ∧
    (∀ (r₁ r₂ : BitVec 16) (b₁ b₂ : Byte), crcByte (r₁ ^^^ r₂) (b₁ ^^^ b₂) = crcByte r₁ b₁ ^^^ crcByte r₂ b₂) ∧
    (∀ b : Byte, Function.Bijective fun r => crcByte r b) ∧
    (∀ (r : BitVec 16) (b : Byte), crcByte r b = (r >>> 8) ^^^ crcByte (((r ^^^ b.setWidth 16) &&& 0xFF#16)) 0#8)

/-! ### Block Codec (41_block_codec.md) -/

/-- The pseudo-timestamp is the integer difference reduced to 0..2^24-1 (R104). -/
def Obligations.TimestampIsModularDifference : Prop :=
  ∀ (now : Nat) (tsoff : BitVec 24), ((pseudoTimestamp now tsoff).toNat : Int) = ((now : Int) - tsoff.toNat) % 2 ^ 24

/-- The bytes of a built block, field by field (R100 to R107): private identity, counter, pseudo-timestamp, use, random
field, check field, each least significant byte first. -/
def Obligations.BlockLayout : Prop :=
  ∀ (privid : BitVec 48) (ctr : BitVec 16) (su : BitVec 8) (now : Nat) (tsoff : BitVec 24) (rnd : BitVec 16),
    let blk := buildBlock privid ctr su now tsoff rnd
    blk.length = 16 ∧
      (∀ k < 6, (blk.getD k 0).toNat = privid.toNat / 256 ^ k % 256) ∧
      (∀ k < 2, (blk.getD (6 + k) 0).toNat = ctr.toNat / 256 ^ k % 256) ∧
      (∀ k < 3, (blk.getD (8 + k) 0).toNat = (pseudoTimestamp now tsoff).toNat / 256 ^ k % 256) ∧
      blk.getD 11 0 = su ∧
      (∀ k < 2, (blk.getD (12 + k) 0).toNat = rnd.toNat / 256 ^ k % 256) ∧
      (∀ k < 2, (blk.getD (14 + k) 0).toNat = (0xFFFF - (crc16 blk 14).toNat) / 256 ^ k % 256)

/-- Every built block is valid (R110). -/
def Obligations.BuiltBlockIsValid : Prop :=
  ∀ (privid : BitVec 48) (ctr : BitVec 16) (su : BitVec 8) (now : Nat) (tsoff : BitVec 24) (rnd : BitVec 16),
    validBlock (buildBlock privid ctr su now tsoff rnd) = true

/-- With READY, BUILD writes the block of the registers as they stand into BLK and changes no register (R111). -/
def Obligations.BuildWritesTheBlock : Prop :=
  ∀ s : State, s.ready = true →
    ∃ t, exec .build s = .next t ∧
      memRead t 0x00#8 16 = buildBlock s.privid s.ctr s.sessionUse (nowAnswer s) s.tsoff (draw16Answer s) ∧
      (∀ a : Byte, inRange a 0x00#8 16 = false → readByte t a = readByte s a) ∧
      t = { s with
        bm := t.bm
        env := { s.env with draws16 := s.env.draws16.next, nows := s.env.nows.next }
        rsps := 0x00001000#32 :: s.rsps }

/-- VALIDATE answers OK and 0xF0B8 for a valid BLK region and InvalidBlock with the CRC computed for any other, and
changes nothing (R112). -/
def Obligations.ValidateAnswersTheCrc : Prop :=
  ∀ s : State,
    (crc16 (memRead s 0x00#8 16) 16 = 0xF0B8#16 → exec .validate s = .next { s with rsps := 0x00F0B800#32 :: s.rsps }) ∧
    (crc16 (memRead s 0x00#8 16) 16 ≠ 0xF0B8#16 → exec .validate s = .next { s with
      rsps := packRsp .invalidBlock ((crc16 (memRead s 0x00#8 16) 16).setWidth 24) :: s.rsps })

/-- VALIDATE straight after a BUILD succeeds (R112, R110). -/
def Obligations.BuildThenValidateSucceeds : Prop :=
  ∀ s : State, s.ready = true → ∃ t, exec .build s = .next t ∧
    exec .validate t = .next { t with rsps := 0x00F0B800#32 :: t.rsps }

/-! ### Cipher Adapter (42_cipher.md) -/

/-- Encryption and decryption under one key are inverse to each other on blocks of 16 bytes (R126). -/
def Obligations.AesRoundTrip : Prop :=
  ∀ k b : Bytes, k.length = 16 → b.length = 16 →
    aes128Dec k (aes128Enc k b) = b ∧ aes128Enc k (aes128Dec k b) = b

/-- AESENC and AESDEC under a key that is not 16 bytes long: CryptoError, nothing written (R116, R128, R129,
60_exceptions.md R199). -/
def Obligations.BadKeyCipherCommands : Prop :=
  ∀ s : State, s.keylen ≠ 16#8 →
    exec .aesenc s = .next { s with rsps := 0x00000003#32 :: s.rsps } ∧
    exec .aesdec s = .next { s with rsps := 0x00000003#32 :: s.rsps }

/-- AESENC encrypts BLK under `KEY` into CT and changes nothing else (R128). -/
def Obligations.AesencWritesCt : Prop :=
  ∀ s : State, s.keylen = 16#8 →
    ∃ t, exec .aesenc s = .next t ∧ memRead t 0x10#8 16 = aes128Enc s.key.toList (memRead s 0x00#8 16) ∧
      (∀ a : Byte, inRange a 0x10#8 16 = false → readByte t a = readByte s a) ∧
      t = { s with bm := t.bm, rsps := 0x00001000#32 :: s.rsps }

/-- AESDEC decrypts CT under `KEY` into BLK and changes nothing else (R129). -/
def Obligations.AesdecWritesBlk : Prop :=
  ∀ s : State, s.keylen = 16#8 →
    ∃ t, exec .aesdec s = .next t ∧ memRead t 0x00#8 16 = aes128Dec s.key.toList (memRead s 0x10#8 16) ∧
      (∀ a : Byte, inRange a 0x00#8 16 = false → readByte t a = readByte s a) ∧
      t = { s with bm := t.bm, rsps := 0x00001000#32 :: s.rsps }

/-- AESENC then AESDEC restores BLK exactly (R129, R126): after both, every byte of BM but CT is as it was before. -/
def Obligations.AesencThenAesdecRestoresBlk : Prop :=
  ∀ s : State, s.keylen = 16#8 → ∃ t u, exec .aesenc s = .next t ∧ exec .aesdec t = .next u ∧
    ∀ a : Byte, inRange a 0x10#8 16 = false → readByte u a = readByte s a

/-! ### ModHex Codec (43_modhex.md) -/

/-- ModHex round trips, both ways (R143). -/
def Obligations.ModHexRoundTrip : Prop :=
  (∀ b : Bytes, modhexDec (modhexEnc b) = some b) ∧ (∀ cs b : Bytes, modhexDec cs = some b → modhexEnc b = cs)

/-- Decoding fails exactly on an odd length or a byte that is none of the sixteen character codes (R142, R144). -/
def Obligations.ModHexDecodeFailsExactly : Prop :=
  ∀ cs : Bytes, modhexDec cs = none ↔ cs.length % 2 = 1 ∨ ∃ c ∈ cs,
    c ∉ ([0x63, 0x62, 0x64, 0x65, 0x66, 0x67, 0x68, 0x69, 0x6A, 0x6B, 0x6C, 0x6E, 0x72, 0x74, 0x75, 0x76] : Bytes)

/-- MHENC writes the two characters of each source byte, high nibble first, all source bytes being read first, and changes
nothing outside the destination (R146, R141, 20_memory.md R65). -/
def Obligations.MhencWritesCharacters : Prop :=
  ∀ (s : State) (src len dst : Byte), len.toNat ≤ 128 →
    ∃ t, exec (.mhenc src len dst) s = .next t ∧
      (∀ i < len.toNat,
        readByte t (dst + BitVec.ofNat 8 (2 * i)) =
          mhChar ((readByte s (src + BitVec.ofNat 8 i)).extractLsb' 4 4) ∧
        readByte t (dst + BitVec.ofNat 8 (2 * i + 1)) =
          mhChar ((readByte s (src + BitVec.ofNat 8 i)).extractLsb' 0 4)) ∧
      (∀ a : Byte, inRange a dst (2 * len.toNat) = false → readByte t a = readByte s a) ∧
      t = { s with bm := t.bm, rsps := packRsp .ok (BitVec.ofNat 24 (2 * len.toNat)) :: s.rsps }

/-- MHDEC of a well-formed range writes the decoded bytes; of any other it answers InvalidEncoding and writes nothing
(R147). -/
def Obligations.MhdecWritesBytesOrFails : Prop :=
  ∀ (s : State) (src len dst : Byte),
    (∀ bs, modhexDec (memRead s src len.toNat) = some bs →
      ∃ t, exec (.mhdec src len dst) s = .next t ∧ memRead t dst (len.toNat / 2) = bs ∧
        (∀ a : Byte, inRange a dst (len.toNat / 2) = false → readByte t a = readByte s a) ∧
        t = { s with bm := t.bm, rsps := packRsp .ok (BitVec.ofNat 24 (len.toNat / 2)) :: s.rsps }) ∧
    (modhexDec (memRead s src len.toNat) = none →
      exec (.mhdec src len dst) s = .next { s with rsps := 0x00000004#32 :: s.rsps })

/-! ### Host access (46_access.md) -/

/-- RDB answers the byte of BM zero-extended and changes nothing, so that it may be repeated (R185). -/
def Obligations.RdbAnswersTheByte : Prop :=
  ∀ (s : State) (addr : Byte),
    exec (.rdb addr) s = .next { s with rsps := packRsp .ok ((readByte s addr).setWidth 24) :: s.rsps }

/-- WRB writes the byte, leaves every other byte of BM and every register, and answers OK with `VAL` 0 (R186). -/
def Obligations.WrbWritesTheByte : Prop :=
  ∀ (s : State) (addr data : Byte),
    ∃ t, exec (.wrb addr data) s = .next t ∧ readByte t addr = data ∧
      (∀ a : Byte, a ≠ addr → readByte t a = readByte s a) ∧
      t = { s with bm := t.bm, rsps := 0x00000000#32 :: s.rsps }

/-- RDCSR answers the named register zero-extended, STATUS being READY above `LASTERR`, and changes nothing (R187,
10_state.md R33, R34). -/
def Obligations.RdcsrAnswersTheRegister : Prop :=
  ∀ s : State,
    exec (.rdcsr 0) s = .next { s with
      rsps := packRsp .ok (BitVec.ofNat 24 (s.lasterr.toNat + if s.ready then 16 else 0)) :: s.rsps } ∧
    exec (.rdcsr 1) s = .next { s with rsps := packRsp .ok (s.ctr.setWidth 24) :: s.rsps } ∧
    exec (.rdcsr 2) s = .next { s with rsps := packRsp .ok (s.sessionUse.setWidth 24) :: s.rsps } ∧
    exec (.rdcsr 3) s = .next { s with rsps := packRsp .ok s.tsoff :: s.rsps } ∧
    exec (.rdcsr 4) s = .next { s with rsps := packRsp .ok (s.keylen.setWidth 24) :: s.rsps }

/-- The two operand values that have no encoding, `RDCSR` above 4 and `MHENC` above 128, are illegal commands: no effect
and IllegalCommand (30_encoding.md R76, 10_state.md R32; that `exec` gives such a term a meaning is the model's choice,
log 11). -/
def Obligations.OperandsWithoutEncoding : Prop :=
  ∀ s : State,
    (∀ n : Byte, 4 < n.toNat → exec (.rdcsr n) s = .next { s with rsps := 0x00000006#32 :: s.rsps }) ∧
    (∀ src len dst : Byte, 128 < len.toNat →
      exec (.mhenc src len dst) s = .next { s with rsps := 0x00000006#32 :: s.rsps })

/-! ### Frames and rules of the whole machine -/

/-- Reading back a range of at most 256 bytes gives what was written there, and every other byte is as before
(00_scope.md R9, 20_memory.md R60). -/
def Obligations.MemWriteThenRead : Prop :=
  ∀ (s : State) (a : Byte) (vs : Bytes), vs.length ≤ 256 →
    memRead (memWrite a vs s) a vs.length = vs ∧
      ∀ b : Byte, inRange b a vs.length = false → readByte (memWrite a vs s) b = readByte s b

/-- A command leaves every byte of BM outside the range it stores to (10_state.md R47, 20_memory.md R55, R56). -/
def Obligations.CommandsStoreOnlyInTheirRange : Prop :=
  ∀ (i : Instr) (s t : State), exec i s = .next t →
    ∀ a : Byte, inRange a (storedRange s i).1 (storedRange s i).2 = false → readByte t a = readByte s a

/-- Only INSERT and CLICK change the session registers and the status bits, only INSERT the identity registers, the
offset and READY, and no command changes how reset stands or the host's inputs (10_state.md R47, R28, R31;
44_session.md R161; 60_exceptions.md R214). -/
def Obligations.RegisterFrames : Prop :=
  ∀ (i : Instr) (s t : State), exec i s = .next t →
    t.booting = s.booting ∧ t.epoch = s.epoch ∧ t.inbox = s.inbox ∧
    (i ≠ .insert → sameIdentity s t ∧ t.tsoff = s.tsoff ∧ t.ready = s.ready) ∧
    (i ≠ .insert → i ≠ .click → sameSession s t ∧ t.storeLog = s.storeLog)

/-- `LASTERR` is the error code of the most recent INSERT or CLICK: those commands leave there the code they answer, and
READY can only be set (10_state.md R30, R31). -/
def Obligations.LasterrIsTheAnsweredCode : Prop :=
  ∀ (i : Instr) (s t : State), exec i s = .next t →
    (i = .insert ∨ i = .click → ∃ w, t.rsps = w :: s.rsps ∧ t.lasterr = rspErr w) ∧
    (i ≠ .insert → i ≠ .click → t.lasterr = s.lasterr) ∧
    (s.ready = true → t.ready = true) ∧
    (i = .insert → t.lasterr = 0#4 → t.ready = true)

/-- One Store save per counter increment, carrying the new counter, with the use reset in the same command and in no other
(44_session.md R163, 10_state.md R29). -/
def Obligations.OneSavePerIncrement : Prop :=
  ∀ (i : Instr) (s t : State), exec i s = .next t →
    (t.storeLog.countP isSave = s.storeLog.countP isSave ∧
      (t.sessionUse = s.sessionUse ∨ (i = .click ∧ t.sessionUse.toNat = s.sessionUse.toNat + 1)) ∧
      (t.ctr = s.ctr ∨ (i = .insert ∧ t.ctr = 0xFFFF#16))) ∨
    (∃ (c : BitVec 16) (ok : Bool) (calls : List StoreCall), t.storeLog = .save t.ctr ok :: calls ∧
      t.ctr.toNat = c.toNat + 1 ∧ t.sessionUse = 0#8 ∧
      ((i = .click ∧ c = s.ctr ∧ calls = s.storeLog) ∨
       (i = .insert ∧ ∃ m, loadAnswer s = some m ∧ c = m.sessionCounter ∧ calls = .load (some m) :: s.storeLog)))

/-- INSERT calls `StoreLoad` once and `StoreSave` at most once; CLICK calls `StoreSave` at most once, only at the last use;
nothing else calls either (20_memory.md R58). -/
def Obligations.StoreCallsPerCommand : Prop :=
  ∀ (i : Instr) (s t : State), exec i s = .next t →
    t.storeLog.countP isLoad = s.storeLog.countP isLoad + (if i = .insert then 1 else 0) ∧
    t.storeLog.countP isSave ≤ s.storeLog.countP isSave + 1 ∧
    (t.storeLog.countP isSave ≠ s.storeLog.countP isSave → i = .insert ∨ (i = .click ∧ s.sessionUse = 0xFF#8))

/-- The responses of one command do not depend on the secrets `PRIVID` and `KEY` (10_state.md R43). -/
def Obligations.ResponsesHideTheSecrets : Prop :=
  ∀ (i : Instr) (s t t' : State) (p : BitVec 48) (k : Vector Byte 16),
    exec i s = .next t → exec i { s with privid := p, key := k } = .next t' → t'.rsps = t.rsps

/-! ### Invariants -/

/-- The invariant holds at reset. -/
def Obligations.InvHoldsAtReset : Prop :=
  Inv State.reset

/-- Every step keeps the invariant: canonical BM, a legal `LASTERR`, `KEY` zero beyond `KEYLEN`, no READY before the reset
INSERT, legal responses (10_state.md R25, R30, R31; 30_encoding.md R74; 60_exceptions.md R196). -/
def Obligations.StepKeepsInv : Prop :=
  ∀ s t : State, Inv s → step s = .next t → Inv t

/-- The relation of `CTR` to the last Store call holds at reset and is kept by every step (44_session.md R163, R155). -/
def Obligations.StepKeepsSaveTracking : Prop :=
  saveTracksCounter State.reset ∧ ∀ s t : State, saveTracksCounter s → step s = .next t → saveTracksCounter t

/-- On the reference Store the persisted counter never falls, whichever calls fail, and while CLICK can run the registers
are never behind it (20_memory.md R66, 10_state.md R26, 70_reset_and_hazards.md R224). -/
def Obligations.PersistedCounterNeverFalls : Prop :=
  ∀ (r : Config.StoreRecord) (s t : State), counterNotBehind r s → (s.booting = true → s.ready = false) →
    step s = .next t → refStore r t.storeLog →
      counterNotBehind r t ∧
        (persisted r.sessionCounter s.storeLog).toNat ≤ (persisted r.sessionCounter t.storeLog).toNat
end

