-- ==== Sys2Proof/Laws/State.lean ====
section
/-! SUPPORT. One lemma per field of State for each named update of the state: what the update leaves there. -/

namespace Sys2Proof.Machine

/-! ### `memWrite` -/

@[simp] theorem memWrite_pubid (a : Byte) (vs : Bytes) (s : State) : (memWrite a vs s).pubid = s.pubid := rfl
@[simp] theorem memWrite_privid (a : Byte) (vs : Bytes) (s : State) : (memWrite a vs s).privid = s.privid := rfl
@[simp] theorem memWrite_key (a : Byte) (vs : Bytes) (s : State) : (memWrite a vs s).key = s.key := rfl
@[simp] theorem memWrite_keylen (a : Byte) (vs : Bytes) (s : State) : (memWrite a vs s).keylen = s.keylen := rfl
@[simp] theorem memWrite_ctr (a : Byte) (vs : Bytes) (s : State) : (memWrite a vs s).ctr = s.ctr := rfl
@[simp] theorem memWrite_sessionUse (a : Byte) (vs : Bytes) (s : State) : (memWrite a vs s).sessionUse = s.sessionUse := rfl
@[simp] theorem memWrite_tsoff (a : Byte) (vs : Bytes) (s : State) : (memWrite a vs s).tsoff = s.tsoff := rfl
@[simp] theorem memWrite_ready (a : Byte) (vs : Bytes) (s : State) : (memWrite a vs s).ready = s.ready := rfl
@[simp] theorem memWrite_lasterr (a : Byte) (vs : Bytes) (s : State) : (memWrite a vs s).lasterr = s.lasterr := rfl
@[simp] theorem memWrite_bm (a : Byte) (vs : Bytes) (s : State) : (memWrite a vs s).bm = bmWrite s.bm a vs := rfl
@[simp] theorem memWrite_booting (a : Byte) (vs : Bytes) (s : State) : (memWrite a vs s).booting = s.booting := rfl
@[simp] theorem memWrite_epoch (a : Byte) (vs : Bytes) (s : State) : (memWrite a vs s).epoch = s.epoch := rfl
@[simp] theorem memWrite_inbox (a : Byte) (vs : Bytes) (s : State) : (memWrite a vs s).inbox = s.inbox := rfl
@[simp] theorem memWrite_rsps (a : Byte) (vs : Bytes) (s : State) : (memWrite a vs s).rsps = s.rsps := rfl
@[simp] theorem memWrite_env (a : Byte) (vs : Bytes) (s : State) : (memWrite a vs s).env = s.env := rfl
@[simp] theorem memWrite_storeLog (a : Byte) (vs : Bytes) (s : State) : (memWrite a vs s).storeLog = s.storeLog := rfl

/-! ### `afterLoad` -/

@[simp] theorem afterLoad_pubid (s : State) : (afterLoad s).pubid = s.pubid := rfl
@[simp] theorem afterLoad_privid (s : State) : (afterLoad s).privid = s.privid := rfl
@[simp] theorem afterLoad_key (s : State) : (afterLoad s).key = s.key := rfl
@[simp] theorem afterLoad_keylen (s : State) : (afterLoad s).keylen = s.keylen := rfl
@[simp] theorem afterLoad_ctr (s : State) : (afterLoad s).ctr = s.ctr := rfl
@[simp] theorem afterLoad_sessionUse (s : State) : (afterLoad s).sessionUse = s.sessionUse := rfl
@[simp] theorem afterLoad_tsoff (s : State) : (afterLoad s).tsoff = s.tsoff := rfl
@[simp] theorem afterLoad_ready (s : State) : (afterLoad s).ready = s.ready := rfl
@[simp] theorem afterLoad_lasterr (s : State) : (afterLoad s).lasterr = s.lasterr := rfl
@[simp] theorem afterLoad_bm (s : State) : (afterLoad s).bm = s.bm := rfl
@[simp] theorem afterLoad_booting (s : State) : (afterLoad s).booting = s.booting := rfl
@[simp] theorem afterLoad_epoch (s : State) : (afterLoad s).epoch = s.epoch := rfl
@[simp] theorem afterLoad_inbox (s : State) : (afterLoad s).inbox = s.inbox := rfl
@[simp] theorem afterLoad_rsps (s : State) : (afterLoad s).rsps = s.rsps := rfl
@[simp] theorem afterLoad_env (s : State) : (afterLoad s).env = { s.env with loads := s.env.loads.next } := rfl
@[simp] theorem afterLoad_storeLog (s : State) : (afterLoad s).storeLog = .load (loadAnswer s) :: s.storeLog := rfl

/-! ### `afterSave` -/

@[simp] theorem afterSave_pubid (s : State) : (afterSave s).pubid = s.pubid := rfl
@[simp] theorem afterSave_privid (s : State) : (afterSave s).privid = s.privid := rfl
@[simp] theorem afterSave_key (s : State) : (afterSave s).key = s.key := rfl
@[simp] theorem afterSave_keylen (s : State) : (afterSave s).keylen = s.keylen := rfl
@[simp] theorem afterSave_ctr (s : State) : (afterSave s).ctr = s.ctr := rfl
@[simp] theorem afterSave_sessionUse (s : State) : (afterSave s).sessionUse = s.sessionUse := rfl
@[simp] theorem afterSave_tsoff (s : State) : (afterSave s).tsoff = s.tsoff := rfl
@[simp] theorem afterSave_ready (s : State) : (afterSave s).ready = s.ready := rfl
@[simp] theorem afterSave_lasterr (s : State) : (afterSave s).lasterr = s.lasterr := rfl
@[simp] theorem afterSave_bm (s : State) : (afterSave s).bm = s.bm := rfl
@[simp] theorem afterSave_booting (s : State) : (afterSave s).booting = s.booting := rfl
@[simp] theorem afterSave_epoch (s : State) : (afterSave s).epoch = s.epoch := rfl
@[simp] theorem afterSave_inbox (s : State) : (afterSave s).inbox = s.inbox := rfl
@[simp] theorem afterSave_rsps (s : State) : (afterSave s).rsps = s.rsps := rfl
@[simp] theorem afterSave_env (s : State) : (afterSave s).env = { s.env with saves := s.env.saves.next } := rfl
@[simp] theorem afterSave_storeLog (s : State) : (afterSave s).storeLog = .save s.ctr (saveAnswer s) :: s.storeLog := rfl

/-! ### `redrawOffset` -/

@[simp] theorem redrawOffset_pubid (s : State) : (redrawOffset s).pubid = s.pubid := rfl
@[simp] theorem redrawOffset_privid (s : State) : (redrawOffset s).privid = s.privid := rfl
@[simp] theorem redrawOffset_key (s : State) : (redrawOffset s).key = s.key := rfl
@[simp] theorem redrawOffset_keylen (s : State) : (redrawOffset s).keylen = s.keylen := rfl
@[simp] theorem redrawOffset_ctr (s : State) : (redrawOffset s).ctr = s.ctr := rfl
@[simp] theorem redrawOffset_sessionUse (s : State) : (redrawOffset s).sessionUse = s.sessionUse := rfl
@[simp] theorem redrawOffset_tsoff (s : State) : (redrawOffset s).tsoff = draw24Answer s := rfl
@[simp] theorem redrawOffset_ready (s : State) : (redrawOffset s).ready = s.ready := rfl
@[simp] theorem redrawOffset_lasterr (s : State) : (redrawOffset s).lasterr = s.lasterr := rfl
@[simp] theorem redrawOffset_bm (s : State) : (redrawOffset s).bm = s.bm := rfl
@[simp] theorem redrawOffset_booting (s : State) : (redrawOffset s).booting = s.booting := rfl
@[simp] theorem redrawOffset_epoch (s : State) : (redrawOffset s).epoch = s.epoch := rfl
@[simp] theorem redrawOffset_inbox (s : State) : (redrawOffset s).inbox = s.inbox := rfl
@[simp] theorem redrawOffset_rsps (s : State) : (redrawOffset s).rsps = s.rsps := rfl
@[simp] theorem redrawOffset_env (s : State) : (redrawOffset s).env = { s.env with draws24 := s.env.draws24.next } := rfl
@[simp] theorem redrawOffset_storeLog (s : State) : (redrawOffset s).storeLog = s.storeLog := rfl

/-! ### `afterDraws` -/

@[simp] theorem afterDraws_pubid (s : State) : (afterDraws s).pubid = s.pubid := rfl
@[simp] theorem afterDraws_privid (s : State) : (afterDraws s).privid = s.privid := rfl
@[simp] theorem afterDraws_key (s : State) : (afterDraws s).key = s.key := rfl
@[simp] theorem afterDraws_keylen (s : State) : (afterDraws s).keylen = s.keylen := rfl
@[simp] theorem afterDraws_ctr (s : State) : (afterDraws s).ctr = s.ctr := rfl
@[simp] theorem afterDraws_sessionUse (s : State) : (afterDraws s).sessionUse = s.sessionUse := rfl
@[simp] theorem afterDraws_tsoff (s : State) : (afterDraws s).tsoff = s.tsoff := rfl
@[simp] theorem afterDraws_ready (s : State) : (afterDraws s).ready = s.ready := rfl
@[simp] theorem afterDraws_lasterr (s : State) : (afterDraws s).lasterr = s.lasterr := rfl
@[simp] theorem afterDraws_bm (s : State) : (afterDraws s).bm = s.bm := rfl
@[simp] theorem afterDraws_booting (s : State) : (afterDraws s).booting = s.booting := rfl
@[simp] theorem afterDraws_epoch (s : State) : (afterDraws s).epoch = s.epoch := rfl
@[simp] theorem afterDraws_inbox (s : State) : (afterDraws s).inbox = s.inbox := rfl
@[simp] theorem afterDraws_rsps (s : State) : (afterDraws s).rsps = s.rsps := rfl
@[simp] theorem afterDraws_env (s : State) : (afterDraws s).env = { s.env with draws16 := s.env.draws16.next, nows := s.env.nows.next } := rfl
@[simp] theorem afterDraws_storeLog (s : State) : (afterDraws s).storeLog = s.storeLog := rfl

/-! ### `respond` -/

@[simp] theorem respond_pubid (e : ErrCode) (v : BitVec 24) (s : State) : (respond e v s).pubid = s.pubid := rfl
@[simp] theorem respond_privid (e : ErrCode) (v : BitVec 24) (s : State) : (respond e v s).privid = s.privid := rfl
@[simp] theorem respond_key (e : ErrCode) (v : BitVec 24) (s : State) : (respond e v s).key = s.key := rfl
@[simp] theorem respond_keylen (e : ErrCode) (v : BitVec 24) (s : State) : (respond e v s).keylen = s.keylen := rfl
@[simp] theorem respond_ctr (e : ErrCode) (v : BitVec 24) (s : State) : (respond e v s).ctr = s.ctr := rfl
@[simp] theorem respond_sessionUse (e : ErrCode) (v : BitVec 24) (s : State) : (respond e v s).sessionUse = s.sessionUse := rfl
@[simp] theorem respond_tsoff (e : ErrCode) (v : BitVec 24) (s : State) : (respond e v s).tsoff = s.tsoff := rfl
@[simp] theorem respond_ready (e : ErrCode) (v : BitVec 24) (s : State) : (respond e v s).ready = s.ready := rfl
@[simp] theorem respond_lasterr (e : ErrCode) (v : BitVec 24) (s : State) : (respond e v s).lasterr = s.lasterr := rfl
@[simp] theorem respond_bm (e : ErrCode) (v : BitVec 24) (s : State) : (respond e v s).bm = s.bm := rfl
@[simp] theorem respond_booting (e : ErrCode) (v : BitVec 24) (s : State) : (respond e v s).booting = s.booting := rfl
@[simp] theorem respond_epoch (e : ErrCode) (v : BitVec 24) (s : State) : (respond e v s).epoch = s.epoch := rfl
@[simp] theorem respond_inbox (e : ErrCode) (v : BitVec 24) (s : State) : (respond e v s).inbox = s.inbox := rfl
@[simp] theorem respond_rsps (e : ErrCode) (v : BitVec 24) (s : State) : (respond e v s).rsps = packRsp e v :: s.rsps := rfl
@[simp] theorem respond_env (e : ErrCode) (v : BitVec 24) (s : State) : (respond e v s).env = s.env := rfl
@[simp] theorem respond_storeLog (e : ErrCode) (v : BitVec 24) (s : State) : (respond e v s).storeLog = s.storeLog := rfl

/-! ### `raiseError` -/

@[simp] theorem raiseError_pubid (e : ErrCode) (v : BitVec 24) (s : State) : (raiseError e v s).pubid = s.pubid := rfl
@[simp] theorem raiseError_privid (e : ErrCode) (v : BitVec 24) (s : State) : (raiseError e v s).privid = s.privid := rfl
@[simp] theorem raiseError_key (e : ErrCode) (v : BitVec 24) (s : State) : (raiseError e v s).key = s.key := rfl
@[simp] theorem raiseError_keylen (e : ErrCode) (v : BitVec 24) (s : State) : (raiseError e v s).keylen = s.keylen := rfl
@[simp] theorem raiseError_ctr (e : ErrCode) (v : BitVec 24) (s : State) : (raiseError e v s).ctr = s.ctr := rfl
@[simp] theorem raiseError_sessionUse (e : ErrCode) (v : BitVec 24) (s : State) : (raiseError e v s).sessionUse = s.sessionUse := rfl
@[simp] theorem raiseError_tsoff (e : ErrCode) (v : BitVec 24) (s : State) : (raiseError e v s).tsoff = s.tsoff := rfl
@[simp] theorem raiseError_ready (e : ErrCode) (v : BitVec 24) (s : State) : (raiseError e v s).ready = s.ready := rfl
@[simp] theorem raiseError_lasterr (e : ErrCode) (v : BitVec 24) (s : State) : (raiseError e v s).lasterr = s.lasterr := rfl
@[simp] theorem raiseError_bm (e : ErrCode) (v : BitVec 24) (s : State) : (raiseError e v s).bm = s.bm := rfl
@[simp] theorem raiseError_booting (e : ErrCode) (v : BitVec 24) (s : State) : (raiseError e v s).booting = s.booting := rfl
@[simp] theorem raiseError_epoch (e : ErrCode) (v : BitVec 24) (s : State) : (raiseError e v s).epoch = s.epoch := rfl
@[simp] theorem raiseError_inbox (e : ErrCode) (v : BitVec 24) (s : State) : (raiseError e v s).inbox = s.inbox := rfl
@[simp] theorem raiseError_rsps (e : ErrCode) (v : BitVec 24) (s : State) : (raiseError e v s).rsps = packRsp e v :: s.rsps := rfl
@[simp] theorem raiseError_env (e : ErrCode) (v : BitVec 24) (s : State) : (raiseError e v s).env = s.env := rfl
@[simp] theorem raiseError_storeLog (e : ErrCode) (v : BitVec 24) (s : State) : (raiseError e v s).storeLog = s.storeLog := rfl

/-! ### `latchErr` -/

@[simp] theorem latchErr_pubid (e : ErrCode) (s : State) : (latchErr e s).pubid = s.pubid := rfl
@[simp] theorem latchErr_privid (e : ErrCode) (s : State) : (latchErr e s).privid = s.privid := rfl
@[simp] theorem latchErr_key (e : ErrCode) (s : State) : (latchErr e s).key = s.key := rfl
@[simp] theorem latchErr_keylen (e : ErrCode) (s : State) : (latchErr e s).keylen = s.keylen := rfl
@[simp] theorem latchErr_ctr (e : ErrCode) (s : State) : (latchErr e s).ctr = s.ctr := rfl
@[simp] theorem latchErr_sessionUse (e : ErrCode) (s : State) : (latchErr e s).sessionUse = s.sessionUse := rfl
@[simp] theorem latchErr_tsoff (e : ErrCode) (s : State) : (latchErr e s).tsoff = s.tsoff := rfl
@[simp] theorem latchErr_ready (e : ErrCode) (s : State) : (latchErr e s).ready = s.ready := rfl
@[simp] theorem latchErr_lasterr (e : ErrCode) (s : State) : (latchErr e s).lasterr = errCode e := rfl
@[simp] theorem latchErr_bm (e : ErrCode) (s : State) : (latchErr e s).bm = s.bm := rfl
@[simp] theorem latchErr_booting (e : ErrCode) (s : State) : (latchErr e s).booting = s.booting := rfl
@[simp] theorem latchErr_epoch (e : ErrCode) (s : State) : (latchErr e s).epoch = s.epoch := rfl
@[simp] theorem latchErr_inbox (e : ErrCode) (s : State) : (latchErr e s).inbox = s.inbox := rfl
@[simp] theorem latchErr_rsps (e : ErrCode) (s : State) : (latchErr e s).rsps = s.rsps := rfl
@[simp] theorem latchErr_env (e : ErrCode) (s : State) : (latchErr e s).env = s.env := rfl
@[simp] theorem latchErr_storeLog (e : ErrCode) (s : State) : (latchErr e s).storeLog = s.storeLog := rfl

/-! ### `setCtr` -/

@[simp] theorem setCtr_pubid (v : BitVec 16) (s : State) : (setCtr v s).pubid = s.pubid := rfl
@[simp] theorem setCtr_privid (v : BitVec 16) (s : State) : (setCtr v s).privid = s.privid := rfl
@[simp] theorem setCtr_key (v : BitVec 16) (s : State) : (setCtr v s).key = s.key := rfl
@[simp] theorem setCtr_keylen (v : BitVec 16) (s : State) : (setCtr v s).keylen = s.keylen := rfl
@[simp] theorem setCtr_ctr (v : BitVec 16) (s : State) : (setCtr v s).ctr = v := rfl
@[simp] theorem setCtr_sessionUse (v : BitVec 16) (s : State) : (setCtr v s).sessionUse = s.sessionUse := rfl
@[simp] theorem setCtr_tsoff (v : BitVec 16) (s : State) : (setCtr v s).tsoff = s.tsoff := rfl
@[simp] theorem setCtr_ready (v : BitVec 16) (s : State) : (setCtr v s).ready = s.ready := rfl
@[simp] theorem setCtr_lasterr (v : BitVec 16) (s : State) : (setCtr v s).lasterr = s.lasterr := rfl
@[simp] theorem setCtr_bm (v : BitVec 16) (s : State) : (setCtr v s).bm = s.bm := rfl
@[simp] theorem setCtr_booting (v : BitVec 16) (s : State) : (setCtr v s).booting = s.booting := rfl
@[simp] theorem setCtr_epoch (v : BitVec 16) (s : State) : (setCtr v s).epoch = s.epoch := rfl
@[simp] theorem setCtr_inbox (v : BitVec 16) (s : State) : (setCtr v s).inbox = s.inbox := rfl
@[simp] theorem setCtr_rsps (v : BitVec 16) (s : State) : (setCtr v s).rsps = s.rsps := rfl
@[simp] theorem setCtr_env (v : BitVec 16) (s : State) : (setCtr v s).env = s.env := rfl
@[simp] theorem setCtr_storeLog (v : BitVec 16) (s : State) : (setCtr v s).storeLog = s.storeLog := rfl

/-! ### `setUse` -/

@[simp] theorem setUse_pubid (v : BitVec 8) (s : State) : (setUse v s).pubid = s.pubid := rfl
@[simp] theorem setUse_privid (v : BitVec 8) (s : State) : (setUse v s).privid = s.privid := rfl
@[simp] theorem setUse_key (v : BitVec 8) (s : State) : (setUse v s).key = s.key := rfl
@[simp] theorem setUse_keylen (v : BitVec 8) (s : State) : (setUse v s).keylen = s.keylen := rfl
@[simp] theorem setUse_ctr (v : BitVec 8) (s : State) : (setUse v s).ctr = s.ctr := rfl
@[simp] theorem setUse_sessionUse (v : BitVec 8) (s : State) : (setUse v s).sessionUse = v := rfl
@[simp] theorem setUse_tsoff (v : BitVec 8) (s : State) : (setUse v s).tsoff = s.tsoff := rfl
@[simp] theorem setUse_ready (v : BitVec 8) (s : State) : (setUse v s).ready = s.ready := rfl
@[simp] theorem setUse_lasterr (v : BitVec 8) (s : State) : (setUse v s).lasterr = s.lasterr := rfl
@[simp] theorem setUse_bm (v : BitVec 8) (s : State) : (setUse v s).bm = s.bm := rfl
@[simp] theorem setUse_booting (v : BitVec 8) (s : State) : (setUse v s).booting = s.booting := rfl
@[simp] theorem setUse_epoch (v : BitVec 8) (s : State) : (setUse v s).epoch = s.epoch := rfl
@[simp] theorem setUse_inbox (v : BitVec 8) (s : State) : (setUse v s).inbox = s.inbox := rfl
@[simp] theorem setUse_rsps (v : BitVec 8) (s : State) : (setUse v s).rsps = s.rsps := rfl
@[simp] theorem setUse_env (v : BitVec 8) (s : State) : (setUse v s).env = s.env := rfl
@[simp] theorem setUse_storeLog (v : BitVec 8) (s : State) : (setUse v s).storeLog = s.storeLog := rfl

/-! ### `loadIdentity` -/

@[simp] theorem loadIdentity_pubid (m : Config.StoreRecord) (s : State) : (loadIdentity m s).pubid = m.publicId := rfl
@[simp] theorem loadIdentity_privid (m : Config.StoreRecord) (s : State) : (loadIdentity m s).privid = m.privateId := rfl
@[simp] theorem loadIdentity_key (m : Config.StoreRecord) (s : State) : (loadIdentity m s).key = keyRegister m.aesKey.val := rfl
@[simp] theorem loadIdentity_keylen (m : Config.StoreRecord) (s : State) : (loadIdentity m s).keylen = BitVec.ofNat 8 m.aesKey.val.length := rfl
@[simp] theorem loadIdentity_ctr (m : Config.StoreRecord) (s : State) : (loadIdentity m s).ctr = m.sessionCounter := rfl
@[simp] theorem loadIdentity_sessionUse (m : Config.StoreRecord) (s : State) : (loadIdentity m s).sessionUse = s.sessionUse := rfl
@[simp] theorem loadIdentity_tsoff (m : Config.StoreRecord) (s : State) : (loadIdentity m s).tsoff = s.tsoff := rfl
@[simp] theorem loadIdentity_ready (m : Config.StoreRecord) (s : State) : (loadIdentity m s).ready = s.ready := rfl
@[simp] theorem loadIdentity_lasterr (m : Config.StoreRecord) (s : State) : (loadIdentity m s).lasterr = s.lasterr := rfl
@[simp] theorem loadIdentity_bm (m : Config.StoreRecord) (s : State) : (loadIdentity m s).bm = s.bm := rfl
@[simp] theorem loadIdentity_booting (m : Config.StoreRecord) (s : State) : (loadIdentity m s).booting = s.booting := rfl
@[simp] theorem loadIdentity_epoch (m : Config.StoreRecord) (s : State) : (loadIdentity m s).epoch = s.epoch := rfl
@[simp] theorem loadIdentity_inbox (m : Config.StoreRecord) (s : State) : (loadIdentity m s).inbox = s.inbox := rfl
@[simp] theorem loadIdentity_rsps (m : Config.StoreRecord) (s : State) : (loadIdentity m s).rsps = s.rsps := rfl
@[simp] theorem loadIdentity_env (m : Config.StoreRecord) (s : State) : (loadIdentity m s).env = s.env := rfl
@[simp] theorem loadIdentity_storeLog (m : Config.StoreRecord) (s : State) : (loadIdentity m s).storeLog = s.storeLog := rfl

/-! ### `setReady` -/

@[simp] theorem setReady_pubid (s : State) : (setReady s).pubid = s.pubid := rfl
@[simp] theorem setReady_privid (s : State) : (setReady s).privid = s.privid := rfl
@[simp] theorem setReady_key (s : State) : (setReady s).key = s.key := rfl
@[simp] theorem setReady_keylen (s : State) : (setReady s).keylen = s.keylen := rfl
@[simp] theorem setReady_ctr (s : State) : (setReady s).ctr = s.ctr := rfl
@[simp] theorem setReady_sessionUse (s : State) : (setReady s).sessionUse = s.sessionUse := rfl
@[simp] theorem setReady_tsoff (s : State) : (setReady s).tsoff = s.tsoff := rfl
@[simp] theorem setReady_ready (s : State) : (setReady s).ready = true := rfl
@[simp] theorem setReady_lasterr (s : State) : (setReady s).lasterr = s.lasterr := rfl
@[simp] theorem setReady_bm (s : State) : (setReady s).bm = s.bm := rfl
@[simp] theorem setReady_booting (s : State) : (setReady s).booting = s.booting := rfl
@[simp] theorem setReady_epoch (s : State) : (setReady s).epoch = s.epoch := rfl
@[simp] theorem setReady_inbox (s : State) : (setReady s).inbox = s.inbox := rfl
@[simp] theorem setReady_rsps (s : State) : (setReady s).rsps = s.rsps := rfl
@[simp] theorem setReady_env (s : State) : (setReady s).env = s.env := rfl
@[simp] theorem setReady_storeLog (s : State) : (setReady s).storeLog = s.storeLog := rfl

/-! ### `finishBoot` -/

@[simp] theorem finishBoot_pubid (s : State) : (finishBoot s).pubid = s.pubid := rfl
@[simp] theorem finishBoot_privid (s : State) : (finishBoot s).privid = s.privid := rfl
@[simp] theorem finishBoot_key (s : State) : (finishBoot s).key = s.key := rfl
@[simp] theorem finishBoot_keylen (s : State) : (finishBoot s).keylen = s.keylen := rfl
@[simp] theorem finishBoot_ctr (s : State) : (finishBoot s).ctr = s.ctr := rfl
@[simp] theorem finishBoot_sessionUse (s : State) : (finishBoot s).sessionUse = s.sessionUse := rfl
@[simp] theorem finishBoot_tsoff (s : State) : (finishBoot s).tsoff = s.tsoff := rfl
@[simp] theorem finishBoot_ready (s : State) : (finishBoot s).ready = s.ready := rfl
@[simp] theorem finishBoot_lasterr (s : State) : (finishBoot s).lasterr = s.lasterr := rfl
@[simp] theorem finishBoot_bm (s : State) : (finishBoot s).bm = s.bm := rfl
@[simp] theorem finishBoot_booting (s : State) : (finishBoot s).booting = false := rfl
@[simp] theorem finishBoot_epoch (s : State) : (finishBoot s).epoch = s.epoch := rfl
@[simp] theorem finishBoot_inbox (s : State) : (finishBoot s).inbox = s.inbox := rfl
@[simp] theorem finishBoot_rsps (s : State) : (finishBoot s).rsps = s.rsps := rfl
@[simp] theorem finishBoot_env (s : State) : (finishBoot s).env = s.env := rfl
@[simp] theorem finishBoot_storeLog (s : State) : (finishBoot s).storeLog = s.storeLog := rfl

/-! ### `illegalWord` -/

@[simp] theorem illegalWord_pubid (s : State) : (illegalWord s).pubid = s.pubid := rfl
@[simp] theorem illegalWord_privid (s : State) : (illegalWord s).privid = s.privid := rfl
@[simp] theorem illegalWord_key (s : State) : (illegalWord s).key = s.key := rfl
@[simp] theorem illegalWord_keylen (s : State) : (illegalWord s).keylen = s.keylen := rfl
@[simp] theorem illegalWord_ctr (s : State) : (illegalWord s).ctr = s.ctr := rfl
@[simp] theorem illegalWord_sessionUse (s : State) : (illegalWord s).sessionUse = s.sessionUse := rfl
@[simp] theorem illegalWord_tsoff (s : State) : (illegalWord s).tsoff = s.tsoff := rfl
@[simp] theorem illegalWord_ready (s : State) : (illegalWord s).ready = s.ready := rfl
@[simp] theorem illegalWord_lasterr (s : State) : (illegalWord s).lasterr = s.lasterr := rfl
@[simp] theorem illegalWord_bm (s : State) : (illegalWord s).bm = s.bm := rfl
@[simp] theorem illegalWord_booting (s : State) : (illegalWord s).booting = s.booting := rfl
@[simp] theorem illegalWord_epoch (s : State) : (illegalWord s).epoch = s.epoch := rfl
@[simp] theorem illegalWord_inbox (s : State) : (illegalWord s).inbox = s.inbox := rfl
@[simp] theorem illegalWord_rsps (s : State) : (illegalWord s).rsps = packRsp .illegalCommand 0#24 :: s.rsps := rfl
@[simp] theorem illegalWord_env (s : State) : (illegalWord s).env = s.env := rfl
@[simp] theorem illegalWord_storeLog (s : State) : (illegalWord s).storeLog = s.storeLog := rfl

/-! ### `assertReset` -/

@[simp] theorem assertReset_pubid (s : State) : (assertReset s).pubid = Vector.replicate Config.pubidLen 0#8 := rfl
@[simp] theorem assertReset_privid (s : State) : (assertReset s).privid = 0#48 := rfl
@[simp] theorem assertReset_key (s : State) : (assertReset s).key = Vector.replicate 16 0#8 := rfl
@[simp] theorem assertReset_keylen (s : State) : (assertReset s).keylen = 0#8 := rfl
@[simp] theorem assertReset_ctr (s : State) : (assertReset s).ctr = 0#16 := rfl
@[simp] theorem assertReset_sessionUse (s : State) : (assertReset s).sessionUse = 0#8 := rfl
@[simp] theorem assertReset_tsoff (s : State) : (assertReset s).tsoff = 0#24 := rfl
@[simp] theorem assertReset_ready (s : State) : (assertReset s).ready = false := rfl
@[simp] theorem assertReset_lasterr (s : State) : (assertReset s).lasterr = 0#4 := rfl
@[simp] theorem assertReset_bm (s : State) : (assertReset s).bm = [] := rfl
@[simp] theorem assertReset_booting (s : State) : (assertReset s).booting = true := rfl
@[simp] theorem assertReset_epoch (s : State) : (assertReset s).epoch = s.epoch + 1 := rfl
@[simp] theorem assertReset_inbox (s : State) : (assertReset s).inbox = s.inbox := rfl
@[simp] theorem assertReset_rsps (s : State) : (assertReset s).rsps = s.rsps := rfl
@[simp] theorem assertReset_env (s : State) : (assertReset s).env = s.env := rfl
@[simp] theorem assertReset_storeLog (s : State) : (assertReset s).storeLog = s.storeLog := rfl

end Sys2Proof.Machine
end

