-- ==== Sys2Proof/Laws/Memory.lean ====
section
/-! SUPPORT. Buffer memory: reading back what was written, leaving the rest alone, and keeping the canonical form. -/

namespace Sys2Proof.Machine

/-! ### One byte -/

theorem bmPeek_bmPoke_same (m : Memory) (a : Nat) (v : Byte) : bmPeek (bmPoke m a v) a = some v := by
  induction m with
  | nil => simp [bmPoke, bmPeek]
  | cons p m ih =>
    obtain ⟨b, u⟩ := p
    simp only [bmPoke]
    split
    · simp [bmPeek]
    · split
      · simp [bmPeek]
      · have hba : b ≠ a := fun h => by omega
        simp [bmPeek, hba, ih]

theorem bmPeek_bmPoke_other (m : Memory) (a b : Nat) (v : Byte) (h : b ≠ a) :
    bmPeek (bmPoke m a v) b = bmPeek m b := by
  induction m with
  | nil => simp [bmPoke, bmPeek, h.symm]
  | cons p m ih =>
    obtain ⟨c, u⟩ := p
    simp only [bmPoke]
    split
    · simp [bmPeek, h.symm]
    · split
      next hac => subst hac; simp [bmPeek, h.symm]
      next => simp only [bmPeek, ih]

/-! ### The canonical form -/

theorem wf_iff (m : Memory) :
    m.wf = true ↔ m.Pairwise (fun p q => p.1 < q.1) ∧ ∀ p ∈ m, p.1 < 256 := by
  simp [Memory.wf]

theorem mem_bmPoke {m : Memory} {a : Nat} {v : Byte} {p : Host.Cell} (h : p ∈ bmPoke m a v) :
    p = (a, v) ∨ p ∈ m := by
  induction m with
  | nil => simpa [bmPoke] using h
  | cons q m ih =>
    obtain ⟨b, u⟩ := q
    simp only [bmPoke] at h
    split at h
    · simpa using h
    · split at h
      · rcases List.mem_cons.mp h with h | h
        · exact .inl h
        · exact .inr (List.mem_cons_of_mem _ h)
      · rcases List.mem_cons.mp h with h | h
        · exact .inr (h ▸ List.mem_cons_self)
        · exact (ih h).imp id (List.mem_cons_of_mem _)

/-- A write keeps the canonical form. -/
theorem bmPoke_wf {m : Memory} {a : Nat} {v : Byte} (hm : m.wf = true) (ha : a < 256) :
    (bmPoke m a v).wf = true := by
  rw [wf_iff] at hm ⊢
  refine ⟨?_, fun p hp => ?_⟩
  · have hp := hm.1
    clear hm
    induction m with
    | nil => simp [bmPoke]
    | cons q m ih =>
      obtain ⟨b, u⟩ := q
      rw [List.pairwise_cons] at hp
      simp only [bmPoke]
      split
      next hab =>
        refine List.pairwise_cons.mpr ⟨fun x hx => ?_, List.pairwise_cons.mpr hp⟩
        rcases List.mem_cons.mp hx with rfl | hx
        · exact hab
        · exact Nat.lt_trans hab (hp.1 x hx)
      next hab =>
        split
        next hab' => subst hab'; exact List.pairwise_cons.mpr hp
        next hab' =>
          refine List.pairwise_cons.mpr ⟨fun x hx => ?_, ih hp.2⟩
          rcases mem_bmPoke hx with rfl | hx
          · exact Nat.lt_of_le_of_ne (Nat.le_of_not_lt hab) (Ne.symm hab')
          · exact hp.1 x hx
  · rcases mem_bmPoke hp with rfl | hp
    · exact ha
    · exact hm.2 p hp

/-- A write of a byte string keeps the canonical form. -/
theorem bmWrite_wf {m : Memory} (hm : m.wf = true) (a : Byte) (vs : Bytes) : (bmWrite m a vs).wf = true := by
  induction vs generalizing m a with
  | nil => exact hm
  | cons v vs ih => exact ih (bmPoke_wf hm a.isLt) _

/-- `MemWrite` keeps the canonical form of BM. -/
theorem memWrite_wf {s : State} (hs : s.bm.wf = true) (a : Byte) (vs : Bytes) : (memWrite a vs s).bm.wf = true :=
  bmWrite_wf hs a vs

/-- BM has its canonical form at reset. -/
theorem reset_bm_wf : State.reset.bm.wf = true := by decide

/-- Asserting reset leaves BM in its canonical form. -/
theorem assertReset_bm_wf (s : State) : (assertReset s).bm.wf = true := by
  simp [Memory.wf]

/-! ### Byte strings -/

@[simp] theorem memRead_zero (s : State) (a : Byte) : memRead s a 0 = [] := rfl

theorem memRead_succ (s : State) (a : Byte) (n : Nat) :
    memRead s a (n + 1) = readByte s a :: memRead s (a + 1#8) n := rfl

@[simp] theorem memRead_length (s : State) (a : Byte) (n : Nat) : (memRead s a n).length = n := by
  induction n generalizing a with
  | zero => rfl
  | succ n ih => simp [memRead_succ, ih]

/-- Byte `i` of `MemRead(a, n)` is the one at `(a + i) mod 256` (00_scope.md R9). -/
theorem memRead_getElem (s : State) (a : Byte) (n i : Nat) (h : i < (memRead s a n).length) :
    (memRead s a n)[i] = readByte s (a + BitVec.ofNat 8 i) := by
  induction n generalizing a i with
  | zero => simp at h
  | succ n ih =>
    cases i with
    | zero => simp [memRead_succ]
    | succ i =>
      have h' : i < (memRead s (a + 1#8) n).length := by simpa using h
      have e : a + 1#8 + BitVec.ofNat 8 i = a + BitVec.ofNat 8 (i + 1) := by
        apply BitVec.eq_of_toNat_eq; simp; omega
      simpa [memRead_succ] using (ih (a + 1#8) i h').trans (by rw [e])

/-- A read depends on the epoch and on BM alone. -/
theorem readByte_congr {s t : State} (hb : t.bm = s.bm) (he : t.epoch = s.epoch) (a : Byte) :
    readByte t a = readByte s a := by
  simp [readByte, hb, he]

theorem memRead_congr {s t : State} (hb : t.bm = s.bm) (he : t.epoch = s.epoch) (a : Byte) (n : Nat) :
    memRead t a n = memRead s a n := by
  induction n generalizing a with
  | zero => rfl
  | succ n ih => simp [memRead_succ, ih, readByte_congr hb he]

/-! ### Updates that leave BM leave what is read from it -/

@[simp] theorem readByte_respond (e : ErrCode) (v : BitVec 24) (s : State) (a : Byte) :
    readByte (respond e v s) a = readByte s a := rfl

@[simp] theorem memRead_respond (e : ErrCode) (v : BitVec 24) (s : State) (a : Byte) (n : Nat) :
    memRead (respond e v s) a n = memRead s a n := memRead_congr (s := s) (t := respond e v s) rfl rfl a n

@[simp] theorem readByte_raiseError (e : ErrCode) (v : BitVec 24) (s : State) (a : Byte) :
    readByte (raiseError e v s) a = readByte s a := rfl

@[simp] theorem memRead_raiseError (e : ErrCode) (v : BitVec 24) (s : State) (a : Byte) (n : Nat) :
    memRead (raiseError e v s) a n = memRead s a n := memRead_congr (s := s) (t := raiseError e v s) rfl rfl a n

@[simp] theorem readByte_latchErr (e : ErrCode) (s : State) (a : Byte) :
    readByte (latchErr e s) a = readByte s a := rfl

@[simp] theorem memRead_latchErr (e : ErrCode) (s : State) (a : Byte) (n : Nat) :
    memRead (latchErr e s) a n = memRead s a n := memRead_congr (s := s) (t := latchErr e s) rfl rfl a n

@[simp] theorem readByte_afterLoad (s : State) (a : Byte) :
    readByte (afterLoad s) a = readByte s a := rfl

@[simp] theorem memRead_afterLoad (s : State) (a : Byte) (n : Nat) :
    memRead (afterLoad s) a n = memRead s a n := memRead_congr (s := s) (t := afterLoad s) rfl rfl a n

@[simp] theorem readByte_afterSave (s : State) (a : Byte) :
    readByte (afterSave s) a = readByte s a := rfl

@[simp] theorem memRead_afterSave (s : State) (a : Byte) (n : Nat) :
    memRead (afterSave s) a n = memRead s a n := memRead_congr (s := s) (t := afterSave s) rfl rfl a n

@[simp] theorem readByte_redrawOffset (s : State) (a : Byte) :
    readByte (redrawOffset s) a = readByte s a := rfl

@[simp] theorem memRead_redrawOffset (s : State) (a : Byte) (n : Nat) :
    memRead (redrawOffset s) a n = memRead s a n := memRead_congr (s := s) (t := redrawOffset s) rfl rfl a n

@[simp] theorem readByte_afterDraws (s : State) (a : Byte) :
    readByte (afterDraws s) a = readByte s a := rfl

@[simp] theorem memRead_afterDraws (s : State) (a : Byte) (n : Nat) :
    memRead (afterDraws s) a n = memRead s a n := memRead_congr (s := s) (t := afterDraws s) rfl rfl a n

@[simp] theorem readByte_setCtr (v : BitVec 16) (s : State) (a : Byte) :
    readByte (setCtr v s) a = readByte s a := rfl

@[simp] theorem memRead_setCtr (v : BitVec 16) (s : State) (a : Byte) (n : Nat) :
    memRead (setCtr v s) a n = memRead s a n := memRead_congr (s := s) (t := setCtr v s) rfl rfl a n

@[simp] theorem readByte_setUse (v : BitVec 8) (s : State) (a : Byte) :
    readByte (setUse v s) a = readByte s a := rfl

@[simp] theorem memRead_setUse (v : BitVec 8) (s : State) (a : Byte) (n : Nat) :
    memRead (setUse v s) a n = memRead s a n := memRead_congr (s := s) (t := setUse v s) rfl rfl a n

@[simp] theorem readByte_loadIdentity (m : Config.StoreRecord) (s : State) (a : Byte) :
    readByte (loadIdentity m s) a = readByte s a := rfl

@[simp] theorem memRead_loadIdentity (m : Config.StoreRecord) (s : State) (a : Byte) (n : Nat) :
    memRead (loadIdentity m s) a n = memRead s a n := memRead_congr (s := s) (t := loadIdentity m s) rfl rfl a n

@[simp] theorem readByte_setReady (s : State) (a : Byte) :
    readByte (setReady s) a = readByte s a := rfl

@[simp] theorem memRead_setReady (s : State) (a : Byte) (n : Nat) :
    memRead (setReady s) a n = memRead s a n := memRead_congr (s := s) (t := setReady s) rfl rfl a n

@[simp] theorem readByte_finishBoot (s : State) (a : Byte) :
    readByte (finishBoot s) a = readByte s a := rfl

@[simp] theorem memRead_finishBoot (s : State) (a : Byte) (n : Nat) :
    memRead (finishBoot s) a n = memRead s a n := memRead_congr (s := s) (t := finishBoot s) rfl rfl a n

@[simp] theorem readByte_illegalWord (s : State) (a : Byte) :
    readByte (illegalWord s) a = readByte s a := rfl

@[simp] theorem memRead_illegalWord (s : State) (a : Byte) (n : Nat) :
    memRead (illegalWord s) a n = memRead s a n := memRead_congr (s := s) (t := illegalWord s) rfl rfl a n

/-! ### Reading back what was written -/

/-- An address outside the written range keeps its byte. -/
theorem bmPeek_bmWrite_outside (m : Memory) (a b : Byte) (vs : Bytes)
    (h : ∀ i < vs.length, b ≠ a + BitVec.ofNat 8 i) : bmPeek (bmWrite m a vs) b.toNat = bmPeek m b.toNat := by
  induction vs generalizing m a with
  | nil => rfl
  | cons v vs ih =>
    have hne : b ≠ a := by simpa using h 0 (by simp)
    have hne' : b.toNat ≠ a.toNat := fun e => hne (BitVec.eq_of_toNat_eq e)
    rw [bmWrite, ih, bmPeek_bmPoke_other _ _ _ _ hne']
    intro i hi
    have e : a + 1#8 + BitVec.ofNat 8 i = a + BitVec.ofNat 8 (i + 1) := by
      apply BitVec.eq_of_toNat_eq; simp; omega
    rw [e]
    exact h (i + 1) (by simpa using hi)

/-- Byte `i` of a written string stands at `(a + i) mod 256`, if the string does not overlap itself. -/
theorem bmPeek_bmWrite_inside (m : Memory) (a : Byte) (vs : Bytes) (hl : vs.length ≤ 256) (i : Nat)
    (hi : i < vs.length) : bmPeek (bmWrite m a vs) (a + BitVec.ofNat 8 i).toNat = some vs[i] := by
  induction vs generalizing m a i with
  | nil => simp at hi
  | cons v vs ih =>
    have hl' : vs.length + 1 ≤ 256 := by simpa using hl
    cases i with
    | zero =>
      have hout : ∀ j < vs.length, a + BitVec.ofNat 8 0 ≠ a + 1#8 + BitVec.ofNat 8 j := by
        intro j hj e
        have := congrArg BitVec.toNat e
        simp at this
        omega
      rw [bmWrite, bmPeek_bmWrite_outside _ _ _ _ hout]
      simp [bmPeek_bmPoke_same]
    | succ i =>
      have e : a + BitVec.ofNat 8 (i + 1) = a + 1#8 + BitVec.ofNat 8 i := by
        apply BitVec.eq_of_toNat_eq; simp; omega
      rw [bmWrite, e, ih _ _ (by omega) i (by simpa using hi)]
      simp

end Sys2Proof.Machine
end

