-- ==== Sys2Proof/Laws/Session.lean ====
section
/-! SUPPORT. Everything the session procedures, INSERT and CLICK can do, said once (44_session.md, 45_controller.md), for
the proofs to cite instead of unfolding them. -/

namespace Sys2Proof.Machine

/-! ### Ports of the environment -/

@[simp] theorem Port.next_taken {α : Type} (p : Port α) : p.next.taken = p.taken + 1 := rfl

@[simp] theorem Port.next_script {α : Type} (p : Port α) : p.next.script = p.script.tail := rfl

/-- A scripted answer is the one given. -/
theorem Port.answer_scripted {α : Type} (free : Nat → α) (x : α) (xs : List α) (n : Nat) :
    Port.answer free ⟨x :: xs, n⟩ = x := rfl

/-- With nothing scripted the answer is the free value. -/
theorem Port.answer_unscripted {α : Type} (free : Nat → α) (n : Nat) : Port.answer free ⟨[], n⟩ = free n := rfl

/-! ### An operation leaves the answers of the ports it does not take from -/

@[simp] theorem saveAnswer_setUse (v : BitVec 8) (s : State) : saveAnswer (setUse v s) = saveAnswer s := rfl
@[simp] theorem draw24Answer_setUse (v : BitVec 8) (s : State) : draw24Answer (setUse v s) = draw24Answer s := rfl
@[simp] theorem draw16Answer_setUse (v : BitVec 8) (s : State) : draw16Answer (setUse v s) = draw16Answer s := rfl
@[simp] theorem nowAnswer_setUse (v : BitVec 8) (s : State) : nowAnswer (setUse v s) = nowAnswer s := rfl

@[simp] theorem saveAnswer_setCtr (v : BitVec 16) (s : State) : saveAnswer (setCtr v s) = saveAnswer s := rfl
@[simp] theorem draw24Answer_setCtr (v : BitVec 16) (s : State) : draw24Answer (setCtr v s) = draw24Answer s := rfl
@[simp] theorem draw16Answer_setCtr (v : BitVec 16) (s : State) : draw16Answer (setCtr v s) = draw16Answer s := rfl
@[simp] theorem nowAnswer_setCtr (v : BitVec 16) (s : State) : nowAnswer (setCtr v s) = nowAnswer s := rfl

@[simp] theorem saveAnswer_afterLoad (s : State) : saveAnswer (afterLoad s) = saveAnswer s := rfl
@[simp] theorem draw24Answer_afterLoad (s : State) : draw24Answer (afterLoad s) = draw24Answer s := rfl
@[simp] theorem draw16Answer_afterLoad (s : State) : draw16Answer (afterLoad s) = draw16Answer s := rfl
@[simp] theorem nowAnswer_afterLoad (s : State) : nowAnswer (afterLoad s) = nowAnswer s := rfl

@[simp] theorem saveAnswer_loadIdentity (m : Config.StoreRecord) (s : State) : saveAnswer (loadIdentity m s) = saveAnswer s := rfl
@[simp] theorem draw24Answer_loadIdentity (m : Config.StoreRecord) (s : State) : draw24Answer (loadIdentity m s) = draw24Answer s := rfl
@[simp] theorem draw16Answer_loadIdentity (m : Config.StoreRecord) (s : State) : draw16Answer (loadIdentity m s) = draw16Answer s := rfl
@[simp] theorem nowAnswer_loadIdentity (m : Config.StoreRecord) (s : State) : nowAnswer (loadIdentity m s) = nowAnswer s := rfl

@[simp] theorem saveAnswer_redrawOffset (s : State) : saveAnswer (redrawOffset s) = saveAnswer s := rfl
@[simp] theorem draw16Answer_redrawOffset (s : State) : draw16Answer (redrawOffset s) = draw16Answer s := rfl
@[simp] theorem nowAnswer_redrawOffset (s : State) : nowAnswer (redrawOffset s) = nowAnswer s := rfl

@[simp] theorem draw24Answer_afterSave (s : State) : draw24Answer (afterSave s) = draw24Answer s := rfl
@[simp] theorem draw16Answer_afterSave (s : State) : draw16Answer (afterSave s) = draw16Answer s := rfl
@[simp] theorem nowAnswer_afterSave (s : State) : nowAnswer (afterSave s) = nowAnswer s := rfl

/-! ### The session procedures (44_session.md R155 to R160) -/

/-- The registers after a counter increment that resets the use (44_session.md R157, R159). -/
def bumpCounter (s : State) : State := setUse 0#8 (setCtr (s.ctr + 1#16) s)

/-- `advance`, `USE <- 0`, `StoreSave`: refused, saved, or the save failed. -/
theorem advanceAndSave_spec (s : State) :
    (s.ctr = 0xFFFF#16 ∧ advanceAndSave s = .raised .sessionCounterExhausted s) ∨
    (s.ctr ≠ 0xFFFF#16 ∧ saveAnswer s = true ∧ advanceAndSave s = .done (afterSave (bumpCounter s))) ∨
    (s.ctr ≠ 0xFFFF#16 ∧ saveAnswer s = false ∧ advanceAndSave s = .raised .storageError (afterSave (bumpCounter s))) := by
  by_cases h : s.ctr = 0xFFFF#16
  · exact .inl ⟨h, by rw [advanceAndSave, advance, if_pos h]⟩
  · have e : advanceAndSave s = saveCounter (bumpCounter s) := by
      rw [advanceAndSave, advance, if_neg h, bumpCounter]
    have e' : saveAnswer (bumpCounter s) = saveAnswer s := rfl
    cases hs : saveAnswer s with
    | true => exact .inr (.inl ⟨h, rfl, by simp [e, saveCounter, e', hs]⟩)
    | false => exact .inr (.inr ⟨h, rfl, by simp [e, saveCounter, e', hs]⟩)

/-- A click below the last use advances the use and nothing else (44_session.md R159). -/
theorem onClick_below {s : State} (h : s.sessionUse < 0xFF#8) :
    onClick s = .done (setUse (s.sessionUse + 1#8) s) := by
  rw [onClick, if_pos h]

/-- A click at the last use is the wrap (44_session.md R159). -/
theorem onClick_wrap {s : State} (h : s.sessionUse = 0xFF#8) : onClick s = advanceAndSave s := by
  simp [onClick, h]

/-- The session use is below 0xFF or equal to it. -/
theorem sessionUse_cases (s : State) : s.sessionUse < 0xFF#8 ∨ s.sessionUse = 0xFF#8 := by
  have : s.sessionUse.toNat < 256 := s.sessionUse.isLt
  rcases Nat.lt_or_ge s.sessionUse.toNat 255 with h | h
  · exact .inl (by simpa [BitVec.lt_def] using h)
  · exact .inr (BitVec.eq_of_toNat_eq (by simp; omega))

/-- `onClick`: the use advances, the wrap is refused, saved, or its save fails (44_session.md R159, R160). -/
theorem onClick_spec (s : State) :
    (s.sessionUse < 0xFF#8 ∧ onClick s = .done (setUse (s.sessionUse + 1#8) s)) ∨
    (s.sessionUse = 0xFF#8 ∧ s.ctr = 0xFFFF#16 ∧ onClick s = .raised .sessionCounterExhausted s) ∨
    (s.sessionUse = 0xFF#8 ∧ s.ctr ≠ 0xFFFF#16 ∧ saveAnswer s = true ∧ onClick s = .done (afterSave (bumpCounter s))) ∨
    (s.sessionUse = 0xFF#8 ∧ s.ctr ≠ 0xFFFF#16 ∧ saveAnswer s = false ∧
      onClick s = .raised .storageError (afterSave (bumpCounter s))) := by
  rcases sessionUse_cases s with h | h
  · exact .inl ⟨h, onClick_below h⟩
  · rw [onClick_wrap h]
    rcases advanceAndSave_spec s with ⟨hc, e⟩ | ⟨hc, hs, e⟩ | ⟨hc, hs, e⟩
    · exact .inr (.inl ⟨h, hc, e⟩)
    · exact .inr (.inr (.inl ⟨h, hc, hs, e⟩))
    · exact .inr (.inr (.inr ⟨h, hc, hs, e⟩))

/-! ### INSERT (45_controller.md R170, R171) -/

/-- The state INSERT reaches once the mapping is loaded and `TSOFF` redrawn. -/
def loadedState (m : Config.StoreRecord) (s : State) : State :=
  redrawOffset (loadIdentity m (afterLoad s))

/-- The four outcomes of INSERT (45_controller.md R171). -/
theorem insertBody_spec (s : State) :
    (loadAnswer s = none ∧ insertBody s = .raised .storageError (afterLoad s)) ∨
    ∃ m, loadAnswer s = some m ∧
      ((m.sessionCounter = 0xFFFF#16 ∧ insertBody s = .raised .sessionCounterExhausted (loadedState m s)) ∨
       (m.sessionCounter ≠ 0xFFFF#16 ∧ saveAnswer s = true ∧
          insertBody s = .done (setReady (afterSave (bumpCounter (loadedState m s))))) ∨
       (m.sessionCounter ≠ 0xFFFF#16 ∧ saveAnswer s = false ∧
          insertBody s = .raised .storageError (afterSave (bumpCounter (loadedState m s))))) := by
  cases hl : loadAnswer s with
  | none => exact .inl ⟨rfl, by simp [insertBody, hl]⟩
  | some m =>
    refine .inr ⟨m, rfl, ?_⟩
    have e : onInsert (loadIdentity m (afterLoad s)) = advanceAndSave (loadedState m s) := rfl
    have hc : (loadedState m s).ctr = m.sessionCounter := rfl
    have hv : saveAnswer (loadedState m s) = saveAnswer s := rfl
    rcases advanceAndSave_spec (loadedState m s) with ⟨h, ha⟩ | ⟨h, hs, ha⟩ | ⟨h, hs, ha⟩
    · exact .inl ⟨hc ▸ h, by simp [insertBody, hl, e, ha]⟩
    · exact .inr (.inl ⟨hc ▸ h, hv ▸ hs, by simp [insertBody, hl, e, ha]⟩)
    · exact .inr (.inr ⟨hc ▸ h, hv ▸ hs, by simp [insertBody, hl, e, ha]⟩)

/-! ### CLICK (45_controller.md R172, R174) -/

/-- CLICK without READY (60_exceptions.md R203). -/
theorem clickBody_notReady {s : State} (h : s.ready = false) : clickBody s = .raised .notReady s := by
  simp [clickBody, h]

/-- CLICK with READY: what `onClick` did, then steps 2 to 5 on the block of the registers it left. -/
theorem clickBody_ready {s : State} (h : s.ready = true) :
    (∃ e t, onClick s = .raised e t ∧ clickBody s = .raised e t) ∨
    (∃ t, onClick s = .done t ∧ clickBody s = emitOtp (blockNow t) (afterDraws t)) := by
  cases hc : onClick s with
  | done t => exact .inr ⟨t, rfl, by simp [clickBody, h, hc]⟩
  | raised e t => exact .inl ⟨e, t, rfl, by simp [clickBody, h, hc]⟩

/-- Steps 3 to 5 of CLICK, whatever the block. -/
theorem emitOtp_spec (blk : Bytes) (s : State) :
    (validBlock blk = false ∧ emitOtp blk s = .raised .invalidBlock s) ∨
    (validBlock blk = true ∧ keyUsable s = false ∧ emitOtp blk s = .raised .cryptoError s) ∨
    (validBlock blk = true ∧ keyUsable s = true ∧
      emitOtp blk s = .done (memWrite outBase (otpString s blk) s)) := by
  cases hv : validBlock blk <;> cases hk : keyUsable s <;> simp [emitOtp, hv, hk]

/-! ### The shared ends -/

@[simp] theorem latchOutcome_done (s : State) : latchOutcome (.done s) = .done (latchErr .ok s) := rfl

@[simp] theorem latchOutcome_raised (e : ErrCode) (s : State) :
    latchOutcome (.raised e s) = .raised e (latchErr e s) := rfl

@[simp] theorem answerProc_done (val : State → BitVec 24) (s : State) :
    answerProc val (.done s) = respond .ok (val s) s := rfl

@[simp] theorem answerProc_raised (val : State → BitVec 24) (e : ErrCode) (s : State) :
    answerProc val (.raised e s) = raiseError e 0#24 s := rfl

end Sys2Proof.Machine
end

