-- ==== Sys2Proof/Laws/Codec.lean ====
section
/-! SUPPORT. The lengths of the byte strings the block makes (00_scope.md R6, 45_controller.md R175). -/

namespace Sys2Proof.Machine

@[simp] theorem blockData_length (p : BitVec 48) (c : BitVec 16) (u : BitVec 8) (n : Nat) (t : BitVec 24)
    (r : BitVec 16) : (blockData p c u n t r).length = 14 := rfl

@[simp] theorem checkField_length (d : Bytes) : (checkField d).length = 2 := rfl

@[simp] theorem buildBlock_length (p : BitVec 48) (c : BitVec 16) (u : BitVec 8) (n : Nat) (t : BitVec 24)
    (r : BitVec 16) : (buildBlock p c u n t r).length = 16 := rfl

@[simp] theorem blockNow_length (s : State) : (blockNow s).length = 16 := rfl

@[simp] theorem blockBytes_length (b : AesBlock) : (blockBytes b).length = 16 := rfl

@[simp] theorem aes128Enc_length (k b : Bytes) : (aes128Enc k b).length = 16 := rfl

@[simp] theorem aes128Dec_length (k b : Bytes) : (aes128Dec k b).length = 16 := rfl

@[simp] theorem modhexEnc_length (bs : Bytes) : (modhexEnc bs).length = 2 * bs.length := by
  induction bs with
  | nil => rfl
  | cons b bs ih => simp [modhexEnc, ih]; omega

/-- A string that decodes has twice as many characters as its bytes. -/
theorem modhexDec_length {cs bs : Bytes} (h : modhexDec cs = some bs) : cs.length = 2 * bs.length := by
  induction cs using modhexDec.induct generalizing bs with
  | case1 => cases h; rfl
  | case2 => cases h
  | case3 x y cs a b r hr ha hb ih =>
    simp only [modhexDec, hr, ha, hb, Option.some.injEq] at h
    subst h
    simp [ih hr]
    omega
  | case4 x y cs hn =>
    have hnone : modhexDec (x :: y :: cs) = none := by
      rw [modhexDec]
      split
      next a b r ha hb hr => exact absurd hr (hn a b r ha hb)
      next => rfl
    rw [hnone] at h
    cases h

@[simp] theorem otpString_length (s : State) (b : Bytes) : (otpString s b).length = 44 := by
  simp [otpString]

end Sys2Proof.Machine
end

