-- ==== Sys2Proof/Laws/Encoding.lean ====
section
/-! SUPPORT. The four fields of a command word (30_encoding.md R70) and the fields of a response (R74), taken apart and put
together. -/

namespace Sys2Proof

/-- Each bit of an assembled word is a bit of one of its fields (R70). -/
theorem getLsbD_assemble (op a b c : Byte) (i : Nat) :
    (assemble op a b c).getLsbD i =
      if i < 8 then op.getLsbD i
      else if i - 8 < 8 then a.getLsbD (i - 8)
      else if i - 8 - 8 < 8 then b.getLsbD (i - 8 - 8)
      else c.getLsbD (i - 8 - 8 - 8) := by
  change BitVec.getLsbD (w := 8 + 8 + 8 + 8) (c ++ b ++ a ++ op) i = _
  simp only [BitVec.getLsbD_append]

@[simp] theorem fieldOp_assemble (op a b c : Byte) : fieldOp (assemble op a b c) = op := by
  apply BitVec.eq_of_getLsbD_eq
  intro i hi
  rw [fieldOp, BitVec.getLsbD_extractLsb', getLsbD_assemble]
  simp [hi]

@[simp] theorem fieldA_assemble (op a b c : Byte) : fieldA (assemble op a b c) = a := by
  apply BitVec.eq_of_getLsbD_eq
  intro i hi
  rw [fieldA, BitVec.getLsbD_extractLsb', getLsbD_assemble]
  simp only [hi, show ¬ 8 + i < 8 by omega, show 8 + i - 8 = i by omega, if_true, if_false, decide_true, Bool.true_and]

@[simp] theorem fieldB_assemble (op a b c : Byte) : fieldB (assemble op a b c) = b := by
  apply BitVec.eq_of_getLsbD_eq
  intro i hi
  rw [fieldB, BitVec.getLsbD_extractLsb', getLsbD_assemble]
  simp only [hi, show ¬ 16 + i < 8 by omega, show ¬ 16 + i - 8 < 8 by omega, show 16 + i - 8 - 8 = i by omega, if_true, if_false, decide_true, Bool.true_and]

@[simp] theorem fieldC_assemble (op a b c : Byte) : fieldC (assemble op a b c) = c := by
  apply BitVec.eq_of_getLsbD_eq
  intro i hi
  rw [fieldC, BitVec.getLsbD_extractLsb', getLsbD_assemble]
  simp only [hi, show ¬ 24 + i < 8 by omega, show ¬ 24 + i - 8 < 8 by omega, show ¬ 24 + i - 8 - 8 < 8 by omega, show 24 + i - 8 - 8 - 8 = i by omega, if_false, decide_true, Bool.true_and]

/-- Every word is put together from its four fields (R70). -/
theorem assemble_fields (w : Word) : assemble (fieldOp w) (fieldA w) (fieldB w) (fieldC w) = w := by
  apply BitVec.eq_of_getLsbD_eq
  intro i hi
  simp only [getLsbD_assemble, fieldOp, fieldA, fieldB, fieldC, BitVec.getLsbD_extractLsb']
  split
  next h => simp [h]
  next h =>
    split
    next h' => simp [h', show 8 + (i - 8) = i by omega]
    next h' =>
      split
      next h'' => simp [h'', show 16 + (i - 8 - 8) = i by omega]
      next h'' => simp [show i - 8 - 8 - 8 < 8 by omega, show 24 + (i - 8 - 8 - 8) = i by omega]

/-- Masking a word masks its fields. -/
theorem assemble_and (op a b c op' a' b' c' : Byte) :
    assemble op a b c &&& assemble op' a' b' c' = assemble (op &&& op') (a &&& a') (b &&& b') (c &&& c') := by
  apply BitVec.eq_of_getLsbD_eq
  intro i _
  simp only [BitVec.getLsbD_and, getLsbD_assemble]
  split <;> [rfl; split <;> [rfl; split <;> rfl]]

namespace Machine

/-- Each bit of a response is a bit of its code, 0, or a bit of its value (R74). -/
theorem getLsbD_packRsp (e : ErrCode) (v : BitVec 24) (i : Nat) :
    (packRsp e v).getLsbD i =
      if i < 4 then (errCode e).getLsbD i
      else if i - 4 < 4 then (0#4).getLsbD (i - 4)
      else v.getLsbD (i - 4 - 4) := by
  change BitVec.getLsbD (w := 24 + 4 + 4) (v ++ 0#4 ++ errCode e) i = _
  simp only [BitVec.getLsbD_append]

/-- `RSP[3:0]` of a response is its code. -/
@[simp] theorem rspErr_packRsp (e : ErrCode) (v : BitVec 24) : rspErr (packRsp e v) = errCode e := by
  apply BitVec.eq_of_getLsbD_eq
  intro i hi
  simp [rspErr, getLsbD_packRsp, hi]

/-- `RSP[31:8]` of a response is its value. -/
@[simp] theorem rspVal_packRsp (e : ErrCode) (v : BitVec 24) : rspVal (packRsp e v) = v := by
  apply BitVec.eq_of_getLsbD_eq
  intro i hi
  simp [rspVal, getLsbD_packRsp, hi, show ¬ 8 + i < 4 by omega,
    show ¬ 8 + i - 4 < 4 by omega, show 8 + i - 4 - 4 = i by omega]

/-- `RSP[7:4]` of a response is 0. -/
@[simp] theorem packRsp_middle (e : ErrCode) (v : BitVec 24) : (packRsp e v).extractLsb' 4 4 = 0#4 := by
  apply BitVec.eq_of_getLsbD_eq
  intro i hi
  simp [getLsbD_packRsp, hi]

end Machine

end Sys2Proof
end

