-- ==== Sys2Proof/Laws/PerInstr.lean ====
section
/-! SUPPORT. Statements made once per constructor of Instr. `TableRow`: the encoder's word selects the command's row of
spec/opcode_table.json (`W & mask = match`, 30_encoding.md). -/

namespace Sys2Proof.Laws.TableRow

/-- The `mask` of the command's row: `OP` and the fields that must be zero. -/
def mask : Instr → Word
  | .insert => 0xFFFFFFFF
  | .click => 0xFFFFFFFF
  | .crc16 _ _ => 0xFF0000FF
  | .build => 0xFFFFFFFF
  | .validate => 0xFFFFFFFF
  | .aesenc => 0xFFFFFFFF
  | .aesdec => 0xFFFFFFFF
  | .mhenc _ _ _ => 0x000000FF
  | .mhdec _ _ _ => 0x000000FF
  | .rdb _ => 0xFFFF00FF
  | .wrb _ _ => 0xFF0000FF
  | .rdcsr _ => 0xFFFF00FF

/-- The `match` of the command's row. -/
def pattern : Instr → Word
  | .insert => 0x00000001
  | .click => 0x00000002
  | .crc16 _ _ => 0x00000010
  | .build => 0x00000011
  | .validate => 0x00000012
  | .aesenc => 0x00000020
  | .aesdec => 0x00000021
  | .mhenc _ _ _ => 0x00000030
  | .mhdec _ _ _ => 0x00000031
  | .rdb _ => 0x00000040
  | .wrb _ _ => 0x00000041
  | .rdcsr _ => 0x00000042

/-- The command's word, under its row's mask, is its row's match. -/
def Statement (i : Instr) : Prop := encode i &&& mask i = pattern i

theorem insert : Statement .insert := by
  unfold Statement
  decide

theorem click : Statement .click := by
  unfold Statement
  decide

theorem crc16 (src len : Byte) : Statement (.crc16 src len) := by
  have h : (0xFF0000FF : Word) = assemble 0xFF 0 0 0xFF := by decide
  simp only [Statement, encode, mask, pattern]
  rw [h, assemble_and]
  simp
  decide

theorem build : Statement .build := by
  unfold Statement
  decide

theorem validate : Statement .validate := by
  unfold Statement
  decide

theorem aesenc : Statement .aesenc := by
  unfold Statement
  decide

theorem aesdec : Statement .aesdec := by
  unfold Statement
  decide

theorem mhenc (src len dst : Byte) : Statement (.mhenc src len dst) := by
  have h : (0x000000FF : Word) = assemble 0xFF 0 0 0 := by decide
  simp only [Statement, encode, mask, pattern]
  rw [h, assemble_and]
  simp
  decide

theorem mhdec (src len dst : Byte) : Statement (.mhdec src len dst) := by
  have h : (0x000000FF : Word) = assemble 0xFF 0 0 0 := by decide
  simp only [Statement, encode, mask, pattern]
  rw [h, assemble_and]
  simp
  decide

theorem rdb (addr : Byte) : Statement (.rdb addr) := by
  have h : (0xFFFF00FF : Word) = assemble 0xFF 0 0xFF 0xFF := by decide
  simp only [Statement, encode, mask, pattern]
  rw [h, assemble_and]
  simp
  decide

theorem wrb (addr data : Byte) : Statement (.wrb addr data) := by
  have h : (0xFF0000FF : Word) = assemble 0xFF 0 0 0xFF := by decide
  simp only [Statement, encode, mask, pattern]
  rw [h, assemble_and]
  simp
  decide

theorem rdcsr (n : Byte) : Statement (.rdcsr n) := by
  have h : (0xFFFF00FF : Word) = assemble 0xFF 0 0xFF 0xFF := by decide
  simp only [Statement, encode, mask, pattern]
  rw [h, assemble_and]
  simp
  decide

end Sys2Proof.Laws.TableRow
end

