-- ==== Sys2Proof/Laws/Step.lean ====
section
/-! SUPPORT. Everything one step can do, said once, for the proofs to cite instead of unfolding `step`. -/

namespace Sys2Proof.Machine

/-- A step is the implicit INSERT of reset, an idle step, an assertion of reset, a command, or an illegal word
(70_reset_and_hazards.md R220, R221, 30_encoding.md R73, R76). -/
theorem step_cases {s t : State} (h : step s = .next t) :
    (s.booting = true ∧ t = implicitInsert s) ∨
    (s.booting = false ∧ s.inbox = [] ∧ t = s) ∨
    (s.booting = false ∧ ∃ rest, s.inbox = .assertReset :: rest ∧ t = assertReset { s with inbox := rest }) ∨
    (s.booting = false ∧ ∃ w rest i, s.inbox = .command w :: rest ∧ decode w = .ok i ∧
      exec i { s with inbox := rest } = .next t) ∨
    (s.booting = false ∧ ∃ w rest e, s.inbox = .command w :: rest ∧ decode w = .error e ∧
      t = illegalWord { s with inbox := rest }) := by
  unfold step at h
  split at h
  next hb => exact .inl ⟨hb, (Host.Outcome.next.inj h).symm⟩
  next hb =>
    have hb : s.booting = false := by simpa using hb
    split at h
    next hi => exact .inr (.inl ⟨hb, hi, (Host.Outcome.next.inj h).symm⟩)
    next rest hi => exact .inr (.inr (.inl ⟨hb, rest, hi, (Host.Outcome.next.inj h).symm⟩))
    next w rest hi =>
      split at h
      next i hd => exact .inr (.inr (.inr (.inl ⟨hb, w, rest, i, hi, hd, h⟩)))
      next e hd => exact .inr (.inr (.inr (.inr ⟨hb, w, rest, e, hi, hd, (Host.Outcome.next.inj h).symm⟩)))

end Sys2Proof.Machine
end

