-- ==== Sys2Proof/Tests/Slice0.lean ====
section
/-! SUPPORT. Small tests, their expected values taken from the spec (the vector or rule is named in each comment), and for
every statement with hypotheses a concrete case that meets them (`witness_<Name>`). -/

namespace Sys2Proof.Tests

open Sys2Proof.Machine

/-! ### The states the tests start from -/

/-- The scenario identity of 95_test_vectors.md, with the Store's counter. -/
def scenario (c : BitVec 16) : Config.StoreRecord where
  publicId := #v[0x63, 0x63, 0x63, 0x63, 0x63, 0x63, 0x63, 0x63, 0x63, 0x63, 0x63, 0x65]
  privateId := 0x112233445566#48
  aesKey := ⟨[0x00, 0x11, 0x22, 0x33, 0x44, 0x55, 0x66, 0x77, 0x88, 0x99, 0xAA, 0xBB, 0xCC, 0xDD, 0xEE, 0xFF], by decide⟩
  sessionCounter := c

/-- An environment with the answers of program P2, the Store's answers given. -/
def answers (loads : List (Option Config.StoreRecord)) (saves : List Bool) : Env where
  loads := ⟨loads, 0⟩
  saves := ⟨saves, 0⟩
  draws16 := ⟨[0xBEEF#16, 0x1234#16], 0⟩
  draws24 := ⟨[0x000100#24], 0⟩
  nows := ⟨[0x123, 0x130], 0⟩

/-- Power-up with the scenario record in the Store, the counter and the answers to saves given. -/
def boot (c : BitVec 16) (saves : List Bool) : State :=
  { State.reset with env := answers [some (scenario c)] saves }

/-- Power-up with a Store whose load fails (V59). -/
def bootNoStore : State := { State.reset with env := answers [none] [] }

/-- The reset sequence is over and nothing is loaded. -/
def idle (c : BitVec 16) (saves : List Bool) : State := { boot c saves with booting := false }

/-- The registers of the scenario identity after an insertion, with the session given. -/
def live (c : BitVec 16) (u : BitVec 8) (saves : List Bool) : State :=
  { loadIdentity (scenario c) (idle c saves) with sessionUse := u, tsoff := 0x000100#24, ready := true }

/-- The same with a key of 15 bytes (V59c). -/
def badKey (c : BitVec 16) (u : BitVec 8) (saves : List Bool) : State := { live c u saves with keylen := 15#8 }

/-- The state with one input of the host waiting. -/
def given (i : HostInput) (s : State) : State := { s with inbox := [i] }

/-- V10's block. -/
def blockV10 : Bytes :=
  [0x66, 0x55, 0x44, 0x33, 0x22, 0x11, 0x02, 0x00, 0x23, 0x00, 0x00, 0x01, 0xEF, 0xBE, 0xBD, 0xFC]

/-- V25's ciphertext, which is V46's byte string. -/
def cipherV25 : Bytes :=
  [0x01, 0x6B, 0xA2, 0x56, 0x1C, 0x07, 0x03, 0x7A, 0xB3, 0xDA, 0xC0, 0x1F, 0x0F, 0xB2, 0xE9, 0xFF]

/-- V46's characters, "cbhnldghbrciceilnetlrcbvcvndukvv". -/
def charsV46 : Bytes :=
  [0x63, 0x62, 0x68, 0x6E, 0x6C, 0x64, 0x67, 0x68, 0x62, 0x72, 0x63, 0x69, 0x63, 0x65, 0x69, 0x6C,
    0x6E, 0x65, 0x74, 0x6C, 0x72, 0x63, 0x62, 0x76, 0x63, 0x76, 0x6E, 0x64, 0x75, 0x6B, 0x76, 0x76]

/-- "123456789". -/
def digits : Bytes := [0x31, 0x32, 0x33, 0x34, 0x35, 0x36, 0x37, 0x38, 0x39]

/-- The key of V20. -/
def keyV20 : Bytes := [0, 1, 2, 3, 4, 5, 6, 7, 8, 9, 0x0A, 0x0B, 0x0C, 0x0D, 0x0E, 0x0F]

/-- The next state, if there is one. -/
def after (o : Host.Outcome State Fault Refusal) : Option State :=
  match o with
  | .next t => some t
  | .fault _ => none
  | .refused _ => none

/-- What a test looks at in the next state. -/
def look {α : Type} (f : State → α) (o : Host.Outcome State Fault Refusal) : Option α := (after o).map f

/-- The response of a command, its error code and its value apart. -/
def answered (o : Host.Outcome State Fault Refusal) : Option (BitVec 4 × BitVec 24) :=
  (after o).bind fun t => t.rsps.head?.map fun w => (rspErr w, rspVal w)

/-- `(CTR, USE, READY, LASTERR)`. -/
def session (t : State) : BitVec 16 × BitVec 8 × Bool × BitVec 4 := (t.ctr, t.sessionUse, t.ready, t.lasterr)

/-! ### WellFormed refuses what has no encoding (R73) -/

theorem test_wf_mhenc_length : (Instr.mhenc 0 128 0).wf = true ∧ (Instr.mhenc 0 129 0).wf = false := by decide
theorem test_wf_rdcsr_number : (Instr.rdcsr 4).wf = true ∧ (Instr.rdcsr 5).wf = false := by decide

/-! ### Decoding: one word written out for every command (R78, 2.6) -/

theorem test_decode_insert : decode 0x00000001 = .ok .insert := by decide
theorem test_decode_click : decode 0x00000002 = .ok .click := by decide
theorem test_decode_crc16 : decode 0x0003FE10 = .ok (.crc16 0xFE 3) := by decide
theorem test_decode_build : decode 0x00000011 = .ok .build := by decide
theorem test_decode_validate : decode 0x00000012 = .ok .validate := by decide
theorem test_decode_aesenc : decode 0x00000020 = .ok .aesenc := by decide
theorem test_decode_aesdec : decode 0x00000021 = .ok .aesdec := by decide
theorem test_decode_mhenc : decode 0x2C801030 = .ok (.mhenc 0x10 128 0x2C) := by decide
theorem test_decode_mhdec : decode 0x60045031 = .ok (.mhdec 0x50 4 0x60) := by decide
theorem test_decode_rdb : decode 0x00004C40 = .ok (.rdb 0x4C) := by decide
theorem test_decode_wrb : decode 0x00AAFF41 = .ok (.wrb 0xFF 0xAA) := by decide
theorem test_decode_rdcsr : decode 0x00000442 = .ok (.rdcsr 4) := by decide

/-- The illegal words V60 to V69a. -/
theorem test_decode_illegal :
    ([0x00000000, 0x00000003, 0x000000FF, 0x00000101, 0x01000002, 0x00010011, 0x01000010, 0x01000041, 0x00010040,
      0x00000542, 0x0000FF42, 0x00010042, 0x2C811030] : List Nat).all
        (fun w => (decodeTableWord 32 w).isNone) = true := by decide

/-- The words of R78, assembled. -/
theorem test_encode :
    [Instr.insert, .crc16 0x4C 9, .mhenc 0x10 16 0x2C, .mhdec 0x50 4 0x60, .rdb 0x20, .wrb 0 0x66, .rdcsr 1].map encode =
      [0x00000001#32, 0x00094C10#32, 0x2C101030#32, 0x60045031#32, 0x00002040#32, 0x00660041#32, 0x00000142#32] := by
  decide

/-- The next step after reset runs the word placed (R221: CLICK before any insertion is NotReady). -/
theorem test_withFetchWord : look session (step (State.reset.withFetchWord 32 0x00000002)) = some (0, 0, false, 7) := by
  decide

/-! ### CRC16 (V1, V3, V8, V9e, V9f) -/

theorem test_crc_check_value : crc16 digits 9 = 0x6F91#16 ∧ crc16 digits 4 = 0x8B13#16 := by decide +kernel
theorem test_crc_small : crc16 [0x00] 1 = 0x0F87#16 ∧ crc16 [0x01] 1 = 0x1E0E#16 ∧ crcByte 0x1234#16 0x56#8 = 0x4006#16 := by
  decide +kernel

/-- The range wraps past 0xFF: "123" at 0xFE (2.1). -/
theorem test_crc16_wraps :
    answered (exec (.crc16 0xFE 3) (memWrite 0xFE (digits.take 3) State.reset)) = some (0, 0x00634B) := by decide +kernel

/-! ### Block Codec (V10, V13, V14, V16, R112) -/

theorem test_block_v10 : buildBlock 0x112233445566#48 2#16 1#8 0x123 0x100#24 0xBEEF#16 = blockV10 := by decide +kernel
theorem test_block_v13 : buildBlock 0x112233445566#48 2#16 1#8 5 0x0A#24 0xFFFF#16 =
    [0x66, 0x55, 0x44, 0x33, 0x22, 0x11, 0x02, 0x00, 0xFB, 0xFF, 0xFF, 0x01, 0xFF, 0xFF, 0xB2, 0x6E] := by decide +kernel
theorem test_block_v16 : buildBlock 0x112233445566#48 3#16 0#8 0x1000200 0x100#24 0xABCD#16 =
    [0x66, 0x55, 0x44, 0x33, 0x22, 0x11, 0x03, 0x00, 0x00, 0x01, 0x00, 0x00, 0xCD, 0xAB, 0x28, 0xF2] := by decide +kernel

/-- BUILD with V10's registers (R111). -/
theorem test_build : look (fun t => memRead t 0 16) (exec .build (live 2 1 [])) = some blockV10 := by decide +kernel

theorem test_validate_good : answered (exec .validate (memWrite 0 blockV10 State.reset)) = some (0, 0x00F0B8) := by
  decide +kernel

/-- V10's block with byte 11 set to 0 (2.2). -/
theorem test_validate_bad :
    answered (exec .validate (memWrite 11 [0] (memWrite 0 blockV10 State.reset))) = some (5, 0x00FBFC) := by decide +kernel

/-! ### Cipher (V20, V22, V25) -/

theorem test_aes_tables : sbox 0x00 = 0x63#8 ∧ sbox 0x53 = 0xED#8 ∧ invSbox 0x63 = 0x00#8 ∧ invSbox 0xED = 0x53#8 := by
  decide +kernel
theorem test_aes_encrypt :
    aes128Enc keyV20 [0x00, 0x11, 0x22, 0x33, 0x44, 0x55, 0x66, 0x77, 0x88, 0x99, 0xAA, 0xBB, 0xCC, 0xDD, 0xEE, 0xFF] =
      [0x69, 0xC4, 0xE0, 0xD8, 0x6A, 0x7B, 0x04, 0x30, 0xD8, 0xCD, 0xB7, 0x80, 0x70, 0xB4, 0xC5, 0x5A] := by
  decide +kernel

/-- V25 by command: AESENC of V10's block under the scenario key. -/
theorem test_aesenc :
    look (fun t => memRead t 0x10 16) (exec .aesenc (memWrite 0 blockV10 (live 2 1 []))) = some cipherV25 := by
  decide +kernel
theorem test_aesenc_bad_key : answered (exec .aesenc (badKey 2 1 [])) = some (3, 0) := by decide +kernel

/-- V25 backwards. -/
theorem test_aesdec :
    look (fun t => memRead t 0 16) (exec .aesdec (memWrite 0x10 cipherV25 (live 2 1 []))) = some blockV10 := by
  decide +kernel
theorem test_aesdec_bad_key : answered (exec .aesdec (badKey 2 1 [])) = some (3, 0) := by decide +kernel

/-! ### ModHex (V43, V46, V48, V49b, 2.4) -/

theorem test_modhex_enc : modhexEnc [0x00, 0x01, 0x10, 0xFF, 0x9A, 0x47] =
    [0x63, 0x63, 0x63, 0x62, 0x62, 0x63, 0x76, 0x76, 0x6B, 0x6C, 0x66, 0x69] := by decide
theorem test_modhex_dec_fails :
    modhexDec [0x63] = none ∧ modhexDec [0x63, 0x61] = none ∧ modhexDec [0x43, 0x43] = none ∧ modhexDec [0x63, 0x6D] = none := by
  decide

theorem test_mhenc :
    look (fun t => memRead t 0x2C 32) (exec (.mhenc 0x10 16 0x2C) (memWrite 0x10 cipherV25 State.reset)) = some charsV46 := by
  decide +kernel

/-- In place: the source is read first (R65, 2.4). -/
theorem test_mhenc_in_place :
    look (fun t => memRead t 0x60 4) (exec (.mhenc 0x60 2 0x60) (memWrite 0x60 [0x74, 0x65] State.reset)) =
      some [0x69, 0x66, 0x68, 0x67] := by decide +kernel

theorem test_mhdec :
    look (fun t => (memRead t 0x60 2, t.rsps)) (exec (.mhdec 0x50 4 0x60) (memWrite 0x50 [0x69, 0x66, 0x68, 0x67] State.reset)) =
      some ([0x74, 0x65], [0x00000200#32]) := by decide +kernel
theorem test_mhdec_bad_character :
    look (fun t => (t.bm, t.rsps)) (exec (.mhdec 0x50 2 0x60) (memWrite 0x50 [0x69, 0x61] State.reset)) =
      some ([(0x50, 0x69), (0x51, 0x61)], [0x00000004#32]) := by decide +kernel

/-! ### INSERT and CLICK (V50, V30, V53, V55 to V59c) -/

theorem test_insert_v50 :
    look (fun t => (session t, t.tsoff, t.keylen, t.rsps)) (exec .insert (idle 1 [true])) =
      some ((2, 0, true, 0), 0x100, 16, [0x00000200#32]) := by decide +kernel

/-- V55: the use and READY are kept, the offset is redrawn, nothing is saved. -/
theorem test_insert_v55 :
    look (fun t => (session t, t.tsoff, t.env.saves.taken, t.rsps))
      (exec .insert { idle 0xFFFF [] with sessionUse := 9#8, ready := true, ctr := 7#16 }) =
      some ((0xFFFF, 9, true, 2), 0x100, 0, [0x00000002#32]) := by decide +kernel

/-- V30: the OTP of the scenario. -/
theorem test_click_v30 :
    look (fun t => (memRead t 0x20 44, t.sessionUse, t.rsps)) (exec .click (live 2 0 [])) =
      some ((scenario 2).publicId.toList ++ charsV46, 1, [0x00002C00#32]) := by decide +kernel

/-- V58: a wrap whose save fails. -/
theorem test_click_v58 :
    look (fun t => (session t, t.env.draws16.taken, t.bm)) (exec .click (live 7 0xFF [false])) =
      some ((8, 0, true, 1), 0, []) := by decide +kernel

/-- The reset sequence of program P2, line 0. -/
theorem test_reset_sequence :
    look (fun t => (session t, t.tsoff, t.keylen, t.rsps)) (step (boot 1 [true])) =
      some ((2, 0, true, 0), 0x100, 16, []) := by decide +kernel

/-! ### Host access (2.6) -/

theorem test_wrb_then_rdb : answered (exec (.rdb 0xFF) (memWrite 0xFF [0xAA] State.reset)) = some (0, 0xAA) := by decide
theorem test_wrb : look (fun t => t.bm) (exec (.wrb 0x4C 0x31) (memWrite 0x4D [0x32] State.reset)) =
    some [(0x4C, 0x31), (0x4D, 0x32)] := by decide
theorem test_rdcsr_status : answered (exec (.rdcsr 0) { live 2 0 [] with lasterr := 3#4 }) = some (0, 0x13) := by decide
theorem test_rdcsr_tsoff : answered (exec (.rdcsr 3) (live 2 0 [])) = some (0, 0x100) := by decide

/-! ### Witnesses: the hypotheses of each statement can be met -/

theorem witness_DecodeInvertsEncode :
    (Instr.mhenc 0xFF 128 0xFF).wf = true ∧ (Instr.mhenc 0 0 0).wf = true ∧ (Instr.rdcsr 4).wf = true := by decide
theorem witness_DecodedWordIsItsEncoding : decode 0xFF80FF30 = .ok (.mhenc 0xFF 128 0xFF) := by decide
theorem witness_LegalWordsAreTheTableRows :
    (∃ i, decode 0x2C801030 = .ok i) ∧ (∃ i, decode 0x00000442 = .ok i) ∧
      decode 0x2C811030 = .error .lengthTooLong ∧ decode 0x00000542 = .error .noSuchCsr :=
  ⟨⟨_, rfl⟩, ⟨_, rfl⟩, by decide, by decide⟩
theorem witness_StepRunsTheDecodedCommand :
    (given (.command 0x00000002) (live 2 0 [])).booting = false ∧
      (given (.command 0x00000002) (live 2 0 [])).inbox = .command 0x00000002 :: [] ∧ decode 0x00000002 = .ok .click := by
  decide
theorem witness_IllegalWordHasNoEffect :
    (given (.command 0x00000101) (live 2 0 [])).booting = false ∧
      (given (.command 0x00000101) (live 2 0 [])).inbox = .command 0x00000101 :: [] ∧
      decode 0x00000101 = .error .unusedFieldNotZero := by decide
theorem witness_ResetLeavesColdRegisters :
    (given .assertReset (live 2 0 [])).booting = false ∧
      (given .assertReset (live 2 0 [])).inbox = .assertReset :: [] := by decide
theorem witness_ResetRunsOneInsert : (boot 1 [true]).booting = true := by decide

/-- One reset for each answer of the Store. -/
theorem witness_ResetSequenceOutcomes :
    (coldRegisters bootNoStore ∧ bootNoStore.booting = true ∧ loadAnswer bootNoStore = none) ∧
    (coldRegisters (boot 0xFFFF []) ∧ (boot 0xFFFF []).booting = true ∧
      loadAnswer (boot 0xFFFF []) = some (scenario 0xFFFF) ∧ (scenario 0xFFFF).sessionCounter = 0xFFFF#16) ∧
    (coldRegisters (boot 0xFFFE [true]) ∧ (boot 0xFFFE [true]).booting = true ∧
      loadAnswer (boot 0xFFFE [true]) = some (scenario 0xFFFE) ∧ (scenario 0xFFFE).sessionCounter ≠ 0xFFFF#16 ∧
      saveAnswer (boot 0xFFFE [true]) = true) ∧
    (coldRegisters (boot 0xFFFE [false]) ∧ (boot 0xFFFE [false]).booting = true ∧
      loadAnswer (boot 0xFFFE [false]) = some (scenario 0xFFFE) ∧ saveAnswer (boot 0xFFFE [false]) = false) := by
  unfold coldRegisters
  decide
theorem witness_InsertLoadFails : loadAnswer bootNoStore = none := by decide
theorem witness_InsertSucceeds :
    loadAnswer (idle 0xFFFE [true]) = some (scenario 0xFFFE) ∧ (scenario 0xFFFE).sessionCounter ≠ 0xFFFF#16 ∧
      saveAnswer (idle 0xFFFE [true]) = true := by decide
theorem witness_InsertAtCounterMaximum :
    loadAnswer (idle 0xFFFF []) = some (scenario 0xFFFF) ∧ (scenario 0xFFFF).sessionCounter = 0xFFFF#16 := by decide
theorem witness_InsertSaveFails :
    loadAnswer (idle 0xFFFE [false]) = some (scenario 0xFFFE) ∧ (scenario 0xFFFE).sessionCounter ≠ 0xFFFF#16 ∧
      saveAnswer (idle 0xFFFE [false]) = false := by decide
theorem witness_NotReadyRefusesClickAndBuild : (idle 1 []).ready = false := by decide
theorem witness_ClickEmitsOtp :
    (live 0xFFFF 0xFE []).ready = true ∧ (live 0xFFFF 0xFE []).sessionUse < 0xFF#8 ∧ (live 0xFFFF 0xFE []).keylen = 16#8 ∧
      inRange 0x1F#8 0x20#8 44 = false ∧ inRange 0x4C#8 0x20#8 44 = false := by decide
theorem witness_WrapClickEmitsOtp :
    (live 0xFFFE 0xFF [true]).ready = true ∧ (live 0xFFFE 0xFF [true]).sessionUse = 0xFF#8 ∧
      (live 0xFFFE 0xFF [true]).ctr ≠ 0xFFFF#16 ∧ saveAnswer (live 0xFFFE 0xFF [true]) = true ∧
      (live 0xFFFE 0xFF [true]).keylen = 16#8 ∧ inRange 0x4C#8 0x20#8 44 = false := by decide
theorem witness_WrapClickSaveFails :
    (live 0xFFFE 0xFF [false]).ready = true ∧ (live 0xFFFE 0xFF [false]).sessionUse = 0xFF#8 ∧
      (live 0xFFFE 0xFF [false]).ctr ≠ 0xFFFF#16 ∧ saveAnswer (live 0xFFFE 0xFF [false]) = false := by decide
theorem witness_ClickAtExhaustion :
    (live 0xFFFF 0xFF []).ready = true ∧ (live 0xFFFF 0xFF []).sessionUse = 0xFF#8 ∧
      (live 0xFFFF 0xFF []).ctr = 0xFFFF#16 := by decide
theorem witness_BadKeyClickConsumesUse :
    ((badKey 2 0xFE []).ready = true ∧ (badKey 2 0xFE []).keylen ≠ 16#8 ∧ (badKey 2 0xFE []).sessionUse < 0xFF#8) ∧
    ((badKey 0xFFFE 0xFF [true]).ready = true ∧ (badKey 0xFFFE 0xFF [true]).keylen ≠ 16#8 ∧
      (badKey 0xFFFE 0xFF [true]).sessionUse = 0xFF#8 ∧ (badKey 0xFFFE 0xFF [true]).ctr ≠ 0xFFFF#16 ∧
      saveAnswer (badKey 0xFFFE 0xFF [true]) = true) := by decide
theorem witness_FailedClickKeepsOut : ∃ t, exec .click (badKey 2 0 []) = .next t ∧ t.lasterr ≠ 0#4 :=
  ⟨_, rfl, by decide +kernel⟩
theorem witness_ClickNeverInvalidBlockOrEncoding : ∃ t, exec .click (live 2 0 []) = .next t := ⟨_, rfl⟩

/-- V31, with a state between that keeps the rest of the scripted answers. -/
theorem witness_SuccessiveOtpsDiffer :
    ∃ t u, exec .click (live 2 0 []) = .next t ∧ t.lasterr = 0#4 ∧ exec .click t = .next u ∧ u.lasterr = 0#4 :=
  ⟨_, _, rfl, by decide +kernel, rfl, by decide +kernel⟩
theorem witness_ClicksCountInBase256 :
    (live 0xFFFE 0 []).ready = true ∧ (live 0xFFFE 0 []).sessionUse = 0#8 ∧
      (live 0xFFFE 0 []).ctr.toNat + 511 / 256 ≤ 0xFFFF := by decide
theorem witness_ExactlyTwoHundredFiftyFiveOtpsLeft :
    (live 0xFFFF 0 []).ready = true ∧ (live 0xFFFF 0 []).keylen = 16#8 ∧ (live 0xFFFF 0 []).ctr = 0xFFFF#16 ∧
      (live 0xFFFF 0 []).sessionUse = 0#8 ∧ 0 ≤ 255 ∧ 255 ≤ 255 := by decide
theorem witness_CrcLaws : (digits.take 4 = ([0x31, 0x32, 0x33, 0x34] : Bytes).take 4) ∧ digits ≠ [0x31, 0x32, 0x33, 0x34] := by
  decide
theorem witness_BlockLayout : 5 < 6 ∧ 1 < 2 ∧ 2 < 3 := by decide
theorem witness_BuildWritesTheBlock : (live 2 1 []).ready = true ∧ inRange 0x10#8 0x00#8 16 = false := by decide
theorem witness_ValidateAnswersTheCrc :
    crc16 (memRead (memWrite 0 blockV10 State.reset) 0x00#8 16) 16 = 0xF0B8#16 ∧
      crc16 (memRead (memWrite 0 (List.replicate 16 0) State.reset) 0x00#8 16) 16 ≠ 0xF0B8#16 := by decide +kernel
theorem witness_BuildThenValidateSucceeds : (live 2 1 []).ready = true := by decide
theorem witness_AesRoundTrip : keyV20.length = 16 ∧ blockV10.length = 16 := by decide
theorem witness_BadKeyCipherCommands : (badKey 2 1 []).keylen ≠ 16#8 ∧ State.reset.keylen ≠ 16#8 := by decide
theorem witness_AesencWritesCt : (live 2 1 []).keylen = 16#8 ∧ inRange 0x0F#8 0x10#8 16 = false := by decide
theorem witness_AesdecWritesBlk : (live 2 1 []).keylen = 16#8 ∧ inRange 0x10#8 0x00#8 16 = false := by decide
theorem witness_AesencThenAesdecRestoresBlk : (live 2 1 []).keylen = 16#8 ∧ inRange 0x0F#8 0x10#8 16 = false := by decide
theorem witness_ModHexRoundTrip : modhexDec charsV46 = some cipherV25 := by decide

/-- The boundaries of the length, the last character pair, and an address outside a destination that wraps. -/
theorem witness_MhencWritesCharacters :
    (128#8).toNat ≤ 128 ∧ 127 < (128#8).toNat ∧ (0#8).toNat ≤ 128 ∧
      inRange 0x01#8 0xFF#8 (2 * (1#8).toNat) = false ∧ inRange 0x00#8 0xFF#8 (2 * (1#8).toNat) = true := by decide

/-- Both outcomes of MHDEC, the second for an odd length, and the empty source. -/
theorem witness_MhdecWritesBytesOrFails :
    modhexDec (memRead (memWrite 0x50 [0x69, 0x66] State.reset) 0x50#8 (2#8).toNat) = some [0x74] ∧
      modhexDec (memRead (memWrite 0x50 [0x69, 0x66] State.reset) 0x50#8 (1#8).toNat) = none ∧
      modhexDec (memRead State.reset 0x50#8 (0#8).toNat) = some [] ∧
      inRange 0x61#8 0x60#8 ((2#8).toNat / 2) = false := by decide
theorem witness_WrbWritesTheByte : (0xFE#8 : Byte) ≠ 0xFF#8 := by decide
theorem witness_OperandsWithoutEncoding :
    4 < (5#8).toNat ∧ 4 < (0xFF#8).toNat ∧ 128 < (129#8).toNat ∧ 128 < (0xFF#8).toNat := by decide
theorem witness_MemWriteThenRead :
    (List.replicate 256 (0xAA#8 : Byte)).length ≤ 256 ∧ inRange 0x02#8 0xFF#8 [0x31#8, 0x32#8].length = false :=
  ⟨le_of_eq List.length_replicate, by decide⟩

/-- A command that stores across the end of BM, and an address it leaves. -/
theorem witness_CommandsStoreOnlyInTheirRange :
    (∃ t, exec (.mhenc 0x00 1 0xFF) State.reset = .next t) ∧
      inRange 0x01#8 (storedRange State.reset (.mhenc 0x00 1 0xFF)).1 (storedRange State.reset (.mhenc 0x00 1 0xFF)).2 = false :=
  ⟨⟨_, rfl⟩, by decide⟩

/-- Commands of every kind that the rules of the whole machine speak of have a next state. -/
theorem witness_RegisterFrames :
    (∃ t, exec .insert (idle 1 [true]) = .next t) ∧ (∃ t, exec .click (live 2 0 []) = .next t) ∧
      (∃ t, exec .build (live 2 0 []) = .next t) := ⟨⟨_, rfl⟩, ⟨_, rfl⟩, ⟨_, rfl⟩⟩
theorem witness_LasterrIsTheAnsweredCode :
    (∃ t, exec .insert (idle 1 [true]) = .next t ∧ t.lasterr = 0#4) ∧
      (∃ t, exec .click (live 2 0 []) = .next t ∧ (live 2 0 []).ready = true) ∧
      (∃ t, exec (.rdb 0) (live 2 0 []) = .next t) :=
  ⟨⟨_, rfl, by decide +kernel⟩, ⟨_, rfl, by decide⟩, ⟨_, rfl⟩⟩

/-- The first case by a click below the last use, the second by a wrap and by an insertion. -/
theorem witness_OneSavePerIncrement :
    (∃ t, exec .click (live 2 0xFE []) = .next t ∧ t.storeLog = []) ∧
      (∃ t, exec .click (live 2 0xFF [false]) = .next t ∧ t.storeLog = [.save 3#16 false]) ∧
      (∃ t, exec .insert (idle 1 [true]) = .next t ∧ t.storeLog = [.save 2#16 true, .load (some (scenario 1))]) :=
  ⟨⟨_, rfl, by decide +kernel⟩, ⟨_, rfl, by decide +kernel⟩, ⟨_, rfl, by decide +kernel⟩⟩
theorem witness_StoreCallsPerCommand :
    ∃ t, exec .click (live 2 0xFF [true]) = .next t ∧
      t.storeLog.countP isSave ≠ (live 2 0xFF [true]).storeLog.countP isSave :=
  ⟨_, rfl, by decide +kernel⟩
theorem witness_ResponsesHideTheSecrets :
    (∃ t, exec .click (live 2 0 []) = .next t) ∧
      (∃ t, exec .click { live 2 0 [] with privid := 1#48, key := Vector.replicate 16 0xAA#8 } = .next t) :=
  ⟨⟨_, rfl⟩, ⟨_, rfl⟩⟩

/-- A state that meets the invariant and that no fresh reset is: a session in progress with bytes in BM. -/
theorem inv_live : Inv { live 0xFFFF 0xFF [] with bm := [(0, 0x31), (255, 0x32)], rsps := [0x00F0B800#32, 0x00FBFC05#32] } :=
  ⟨by decide, by decide, by decide, by decide, by simp; decide⟩
theorem witness_StepKeepsInv :
    ∃ s t, Inv s ∧ step s = .next t := ⟨_, _, inv_live, rfl⟩
theorem witness_StepKeepsSaveTracking :
    ∃ t, saveTracksCounter (boot 1 [true]) ∧ step (boot 1 [true]) = .next t :=
  ⟨_, fun h => absurd h (by decide), rfl⟩

/-- A reset against the reference Store provisioned with counter 1, with the answers it gives. -/
theorem witness_PersistedCounterNeverFalls :
    ∃ t, counterNotBehind (scenario 1) (boot 1 [true]) ∧ ((boot 1 [true]).booting = true → (boot 1 [true]).ready = false) ∧
      step (boot 1 [true]) = .next t ∧ refStore (scenario 1) t.storeLog :=
  ⟨_, fun h => absurd h (by decide), fun _ => by decide, rfl, by
    have h : (implicitInsert (boot 1 [true])).storeLog = [.save 2#16 true, .load (some (scenario 1))] := by decide +kernel
    change refStore (scenario 1) (implicitInsert (boot 1 [true])).storeLog
    rw [h]
    simp [refStore, persisted, scenario]⟩

end Sys2Proof.Tests
end

section
/-! Proofs for 00_scope.md: buffer memory reads back as written (R9), every command answers once and legally, and no
step stops (R13). -/

namespace Sys2Proof.Machine

/-! ### Buffer memory (00_scope.md R9) -/

/-- Byte `i` of a written string reads back, if the string does not overlap itself. -/
theorem readByte_memWrite_inside (s : State) (a : Byte) {vs : Bytes} (hl : vs.length ≤ 256) {i : Nat}
    (hi : i < vs.length) : readByte (memWrite a vs s) (a + BitVec.ofNat 8 i) = vs[i] := by
  rw [readByte, memWrite_bm, bmPeek_bmWrite_inside s.bm a vs hl i hi, Option.getD_some]

/-- An address in none of the written places keeps its byte. -/
theorem readByte_memWrite_outside (s : State) {a b : Byte} {vs : Bytes}
    (h : ∀ i < vs.length, b ≠ a + BitVec.ofNat 8 i) : readByte (memWrite a vs s) b = readByte s b := by
  simp [readByte, bmPeek_bmWrite_outside s.bm a b vs h]

/-- The address of byte `i` of a range of at most 256 bytes lies in the range. -/
theorem inRange_add_ofNat (a : Byte) {n i : Nat} (hn : n ≤ 256) (hi : i < n) :
    inRange (a + BitVec.ofNat 8 i) a n = true := by
  have hsub : (a + BitVec.ofNat 8 i - a).toNat = i := by
    rw [BitVec.add_comm, BitVec.add_sub_cancel, BitVec.toNat_ofNat, Nat.mod_eq_of_lt (by omega)]
  simp only [inRange, hsub, hi, decide_true]

/-- A write of at most 256 bytes keeps every byte outside its range. -/
theorem readByte_memWrite_of_not_inRange (s : State) {a b : Byte} {vs : Bytes} (hl : vs.length ≤ 256)
    (hb : inRange b a vs.length = false) : readByte (memWrite a vs s) b = readByte s b := by
  refine readByte_memWrite_outside s fun i hi hba => ?_
  rw [hba, inRange_add_ofNat a hl hi] at hb
  cases hb

/-- A string of at most 256 bytes reads back as written. -/
theorem memRead_memWrite (s : State) (a : Byte) {vs : Bytes} (hl : vs.length ≤ 256) :
    memRead (memWrite a vs s) a vs.length = vs := by
  refine List.ext_getElem (memRead_length _ _ _) fun i hi hi' => ?_
  rw [memRead_getElem, readByte_memWrite_inside s a hl hi']

/-- Settles O50: an address outside the range is none of the written ones, and each written one holds its byte. -/
theorem memWriteThenRead : Obligations.MemWriteThenRead := fun s a _ hl =>
  ⟨memRead_memWrite s a hl, fun _ hb => readByte_memWrite_of_not_inRange s hl hb⟩

/-! ### Legal responses (30_encoding.md R74, 60_exceptions.md R196) -/

/-- No code above 7 is returned (60_exceptions.md R196). -/
theorem errCode_le_seven (e : ErrCode) : (errCode e).toNat ≤ 7 := by
  cases e <;> decide

/-- Different error kinds have different codes. -/
theorem errCode_inj {e f : ErrCode} : errCode e = errCode f ↔ e = f := by
  cases e <;> cases f <;> decide

/-- A response is legal when its `VAL` is 0, or its kind is one of the two that carry a value. -/
theorem legalResponse_packRsp_iff (e : ErrCode) (v : BitVec 24) :
    legalResponse (packRsp e v) = true ↔ e = .ok ∨ e = .invalidBlock ∨ v = 0#24 := by
  have hok : errCode e = 0#4 ↔ e = .ok := errCode_inj (f := .ok)
  simp [legalResponse, errCode_le_seven, hok, errCode_inj, or_assoc]

/-! ### INSERT and CLICK return no response before their end -/

/-- The state a sequence ends in, whether it ran to its end or raised an error. -/
def Proc.final : Proc → State
  | .done s => s
  | .raised _ s => s

@[simp] theorem Proc.final_done (s : State) : (Proc.done s).final = s := rfl

@[simp] theorem Proc.final_raised (e : ErrCode) (s : State) : (Proc.raised e s).final = s := rfl

/-- The end of INSERT or CLICK sets `LASTERR` and returns nothing yet. -/
theorem latchOutcome_rsps (p : Proc) : (latchOutcome p).final.rsps = p.final.rsps := by
  cases p <;> simp

@[simp] theorem bumpCounter_rsps (s : State) : (bumpCounter s).rsps = s.rsps := rfl

@[simp] theorem loadedState_rsps (m : Config.StoreRecord) (s : State) : (loadedState m s).rsps = s.rsps := rfl

theorem insertBody_rsps (s : State) : (insertBody s).final.rsps = s.rsps := by
  rcases insertBody_spec s with ⟨-, h⟩ | ⟨m, -, ⟨-, h⟩ | ⟨-, -, h⟩ | ⟨-, -, h⟩⟩ <;> simp [h]

theorem onClick_rsps (s : State) : (onClick s).final.rsps = s.rsps := by
  rcases onClick_spec s with ⟨-, h⟩ | ⟨-, -, h⟩ | ⟨-, -, -, h⟩ | ⟨-, -, -, h⟩ <;> simp [h]

theorem emitOtp_rsps (blk : Bytes) (s : State) : (emitOtp blk s).final.rsps = s.rsps := by
  rcases emitOtp_spec blk s with ⟨-, h⟩ | ⟨-, -, h⟩ | ⟨-, -, h⟩ <;> simp [h]

theorem clickBody_rsps (s : State) : (clickBody s).final.rsps = s.rsps := by
  have hclick := onClick_rsps s
  cases hr : s.ready with
  | false => simp [clickBody_notReady hr]
  | true =>
    rcases clickBody_ready hr with ⟨e, t, hc, h⟩ | ⟨t, hc, h⟩
    · simpa [h, hc] using hclick
    · simpa [h, hc, emitOtp_rsps] using hclick

/-! ### Every command answers once (00_scope.md R13) -/

/-- The outcome is a next state with exactly one more response than `s`, a legal one. -/
def answersOnce (s : State) (o : Host.Outcome State Fault Refusal) : Prop :=
  ∃ t w, o = .next t ∧ t.rsps = w :: s.rsps ∧ legalResponse w = true

/-- A success may carry any value. -/
theorem answersOnce_respond_ok {s t : State} (v : BitVec 24) (h : t.rsps = s.rsps) :
    answersOnce s (.next (respond .ok v t)) :=
  ⟨_, _, rfl, by rw [respond_rsps, h], (legalResponse_packRsp_iff _ _).mpr (.inl rfl)⟩

/-- Any error may carry the value 0. -/
theorem answersOnce_raiseError {s t : State} (e : ErrCode) (h : t.rsps = s.rsps) :
    answersOnce s (.next (raiseError e 0#24 t)) :=
  ⟨_, _, rfl, by rw [raiseError_rsps, h], (legalResponse_packRsp_iff _ _).mpr (.inr (.inr rfl))⟩

/-- InvalidBlock may carry any value. -/
theorem answersOnce_raiseError_invalidBlock {s t : State} (v : BitVec 24) (h : t.rsps = s.rsps) :
    answersOnce s (.next (raiseError .invalidBlock v t)) :=
  ⟨_, _, rfl, by rw [raiseError_rsps, h], (legalResponse_packRsp_iff _ _).mpr (.inr (.inl rfl))⟩

/-- INSERT and CLICK answer once if what they did before returned nothing. -/
theorem answersOnce_answerProc {s : State} {p : Proc} (val : State → BitVec 24) (h : p.final.rsps = s.rsps) :
    answersOnce s (.next (answerProc val p)) := by
  cases p with
  | done t => exact answersOnce_respond_ok (val t) h
  | raised e t => exact answersOnce_raiseError e h

/-- A command that succeeds under a guard, and else raises an error in the state before it, answers once. -/
theorem answersOnce_guarded {s t : State} {c : Prop} [Decidable c] {v : BitVec 24} {e : ErrCode}
    (h : t.rsps = s.rsps) : answersOnce s (.next (if c then respond .ok v t else raiseError e 0#24 s)) := by
  split
  · exact answersOnce_respond_ok v h
  · exact answersOnce_raiseError e rfl

theorem execInsert_answersOnce (s : State) : answersOnce s (execInsert s) :=
  answersOnce_answerProc _ ((latchOutcome_rsps _).trans (insertBody_rsps s))

theorem execClick_answersOnce (s : State) : answersOnce s (execClick s) :=
  answersOnce_answerProc _ ((latchOutcome_rsps _).trans (clickBody_rsps s))

theorem execValidate_answersOnce (s : State) : answersOnce s (execValidate s) := by
  unfold execValidate
  dsimp only
  split
  · exact answersOnce_respond_ok _ rfl
  · exact answersOnce_raiseError_invalidBlock _ rfl

theorem execMhdec_answersOnce (src len dst : Byte) (s : State) : answersOnce s (execMhdec src len dst s) := by
  unfold execMhdec
  split
  · exact answersOnce_respond_ok _ (memWrite_rsps dst _ s)
  · exact answersOnce_raiseError _ rfl

theorem execRdcsr_answersOnce (n : Byte) (s : State) : answersOnce s (execRdcsr n s) := by
  unfold execRdcsr
  split
  · exact answersOnce_respond_ok _ rfl
  · exact answersOnce_raiseError _ rfl

theorem exec_answersOnce (i : Instr) (s : State) : answersOnce s (exec i s) := by
  cases i with
  | insert => exact execInsert_answersOnce s
  | click => exact execClick_answersOnce s
  | crc16 src len => exact answersOnce_respond_ok _ rfl
  | build => exact answersOnce_guarded (memWrite_rsps blkBase (blockNow s) (afterDraws s))
  | validate => exact execValidate_answersOnce s
  | aesenc => exact answersOnce_guarded (memWrite_rsps ctBase _ s)
  | aesdec => exact answersOnce_guarded (memWrite_rsps blkBase _ s)
  | mhenc src len dst => exact answersOnce_guarded (memWrite_rsps dst _ s)
  | mhdec src len dst => exact execMhdec_answersOnce src len dst s
  | rdb addr => exact answersOnce_respond_ok _ rfl
  | wrb addr data => exact answersOnce_respond_ok _ (memWrite_rsps addr [data] s)
  | rdcsr n => exact execRdcsr_answersOnce n s

/-- Settles O9: each command ends in one `respond` or `raiseError`, with a legal word, on a state that has the responses
of the one before. -/
theorem everyCommandAnswersOnce : Obligations.EveryCommandAnswersOnce :=
  exec_answersOnce

/-! ### Every step completes (00_scope.md R13) -/

/-- Stage 2 of reset comes before any input (70_reset_and_hazards.md R221). -/
theorem step_of_booting {s : State} (hb : s.booting = true) : step s = .next (implicitInsert s) := by
  rw [step, if_pos hb]

/-- With no input the block idles (60_exceptions.md R215). -/
theorem step_of_inbox_nil {s : State} (hb : s.booting = false) (hi : s.inbox = []) : step s = .next s := by
  simp [step, hb, hi]

/-- An assertion of reset is taken (70_reset_and_hazards.md R220). -/
theorem step_of_assertReset {s : State} {rest : List HostInput} (hb : s.booting = false)
    (hi : s.inbox = .assertReset :: rest) : step s = .next (assertReset { s with inbox := rest }) := by
  simp [step, hb, hi]

/-- A word that decodes is taken and its command executed (30_encoding.md R73). -/
theorem step_of_decode_ok {s : State} {w : Word} {rest : List HostInput} {i : Instr} (hb : s.booting = false)
    (hi : s.inbox = .command w :: rest) (hd : decode w = .ok i) : step s = exec i { s with inbox := rest } := by
  simp [step, hb, hi, hd]

/-- A word that does not decode is taken and answered as illegal (30_encoding.md R76). -/
theorem step_of_decode_error {s : State} {w : Word} {rest : List HostInput} {e : DecodeError} (hb : s.booting = false)
    (hi : s.inbox = .command w :: rest) (hd : decode w = .error e) :
    step s = .next (illegalWord { s with inbox := rest }) := by
  simp [step, hb, hi, hd]

/-- Every command completes, well formed or not. -/
theorem exec_completes (i : Instr) (s : State) : completes (exec i s) := by
  obtain ⟨t, -, ht, -⟩ := exec_answersOnce i s
  exact ⟨t, ht⟩

/-- Settles O8: each kind of step is a next state outright, but for a command, which answers. -/
theorem everyStepCompletes : Obligations.EveryStepCompletes := by
  intro s
  cases hb : s.booting with
  | true => exact ⟨_, step_of_booting hb⟩
  | false =>
    match hi : s.inbox with
    | [] => exact ⟨_, step_of_inbox_nil hb hi⟩
    | .assertReset :: rest => exact ⟨_, step_of_assertReset hb hi⟩
    | .command w :: rest =>
      cases hd : decode w with
      | ok i => exact step_of_decode_ok hb hi hd ▸ exec_completes i _
      | error e => exact ⟨_, step_of_decode_error hb hi hd⟩

end Sys2Proof.Machine
end

section
/-! Lemmas for 10_state.md: every built block is valid (40_crc16.md R92, R93, 41_block_codec.md R110), so that the
self-validation of CLICK never fires (45_controller.md R174). -/

namespace Sys2Proof.Machine

/-! ### The iterations are linear and shift zero bits out (40_crc16.md R90, R92) -/

/-- A word XORed into both sides cancels. -/
theorem xor_xor_xor_cancel_left {n : Nat} (z x y : BitVec n) : (z ^^^ x) ^^^ (z ^^^ y) = x ^^^ y := by
  rw [BitVec.xor_comm z x, BitVec.xor_assoc, ← BitVec.xor_assoc z z, BitVec.xor_self, BitVec.zero_xor]

/-- One iteration is linear over XOR. -/
theorem crcStep_xor (r q : BitVec 16) : crcStep (r ^^^ q) = crcStep r ^^^ crcStep q := by
  simp only [crcStep, BitVec.getLsbD_xor, BitVec.ushiftRight_xor_distrib]
  cases r.getLsbD 0 <;> cases q.getLsbD 0
  case false.false => simp
  case false.true => simp [BitVec.xor_assoc]
  case true.false => simp only [Bool.bne_false, if_true, Bool.false_eq_true, if_false]; ac_rfl
  case true.true => simp [BitVec.xor_comm _ crcPoly, xor_xor_xor_cancel_left]

theorem crcSteps_xor (n : Nat) (r q : BitVec 16) : crcSteps n (r ^^^ q) = crcSteps n r ^^^ crcSteps n q := by
  induction n generalizing r q with
  | zero => rfl
  | succ n ih => simp only [crcSteps, crcStep_xor, ih]

/-- Iterations on zero bits are shifts. -/
theorem crcSteps_of_low_zero {n : Nat} {r : BitVec 16} (h : ∀ i < n, r.getLsbD i = false) :
    crcSteps n r = r >>> n := by
  induction n generalizing r with
  | zero => simp [crcSteps]
  | succ n ih =>
    have hstep : crcStep r = r >>> 1 := by rw [crcStep, h 0 (by omega), if_neg (by simp)]
    have hlow : ∀ i < n, (r >>> 1).getLsbD i = false := fun i hi => by
      rw [BitVec.getLsbD_ushiftRight, h (1 + i) (by omega)]
    rw [crcSteps, hstep, ih hlow, ← BitVec.shiftRight_add, Nat.add_comm]

/-- Eight iterations bring the high byte down unchanged. -/
theorem crcSteps_highByte (b : Byte) : crcSteps 8 (b.setWidth 16 <<< 8) = b.setWidth 16 := by
  rw [crcSteps_of_low_zero fun i hi => by simp [hi]]
  refine BitVec.eq_of_getLsbD_eq fun i hi => ?_
  by_cases h : i < 8
  · simp [hi, show 8 + i < 16 by omega]
  · simp [BitVec.getLsbD_of_ge b i (by omega)]

/-! ### The two bytes of a CRC -/

/-- A word is its low byte and its high byte. -/
theorem eq_lowByte_xor_highByte (r : BitVec 16) :
    r = (byteOf r 0).setWidth 16 ^^^ (byteOf r 1).setWidth 16 <<< 8 := by
  refine BitVec.eq_of_getLsbD_eq fun i hi => ?_
  by_cases h : i < 8
  · simp [byteOf, h, hi]
  · simp [byteOf, h, hi, show 8 + (i - 8) = i by omega, show i - 8 < 8 by omega]

/-- A byte of the complement is the complement of the byte. -/
theorem setWidth_byteOf_not (r : BitVec 16) {k : Nat} (hk : k < 2) :
    (byteOf (~~~ r) k).setWidth 16 = (byteOf r k).setWidth 16 ^^^ 0xFF#16 := by
  have h : byteOf (~~~ r) k = byteOf r k ^^^ 0xFF#8 := by
    rw [show (0xFF#8 : Byte) = BitVec.allOnes 8 from rfl, BitVec.xor_allOnes]
    refine BitVec.eq_of_getLsbD_eq fun i hi => ?_
    have hbit : 8 * k + i < 16 := by omega
    simp [byteOf, hi, hbit]
  simp [h]

/-! ### The residue (40_crc16.md R93) -/

/-- The complement's low byte turns the low half into 0xFF, and brings the high byte down. -/
theorem crcByte_not_low (r : BitVec 16) :
    crcByte r (byteOf (~~~ r) 0) = (byteOf r 1).setWidth 16 ^^^ crcSteps 8 0xFF#16 := by
  have hlow : r ^^^ (byteOf (~~~ r) 0).setWidth 16 = (byteOf r 1).setWidth 16 <<< 8 ^^^ 0xFF#16 :=
    calc r ^^^ (byteOf (~~~ r) 0).setWidth 16
        = ((byteOf r 0).setWidth 16 ^^^ (byteOf r 1).setWidth 16 <<< 8) ^^^ ((byteOf r 0).setWidth 16 ^^^ 0xFF#16) := by
          rw [← eq_lowByte_xor_highByte, setWidth_byteOf_not r (by omega)]
      _ = (byteOf r 1).setWidth 16 <<< 8 ^^^ 0xFF#16 := xor_xor_xor_cancel_left _ _ _
  rw [crcByte, hlow, crcSteps_xor, crcSteps_highByte]

/-- From any CRC, its complement's two bytes lead to the residue. -/
theorem crcByte_not_not (r : BitVec 16) :
    crcByte (crcByte r (byteOf (~~~ r) 0)) (byteOf (~~~ r) 1) = crcResidue := by
  have hresidue : crcSteps 8 (crcSteps 8 0xFF#16 ^^^ 0xFF#16) = crcResidue := by
    simp [crcSteps, crcStep, crcPoly, crcResidue]
  rw [crcByte_not_low, crcByte, setWidth_byteOf_not r (by omega), xor_xor_xor_cancel_left, hresidue]

/-- A byte string with its check field has the residue as its CRC. -/
theorem crc16_append_checkField (d : Bytes) : crc16 (d ++ checkField d) (d.length + 2) = crcResidue := by
  have hd : d.foldl crcByte crcInit = crc16 d d.length := by rw [crc16, List.take_length]
  have htake : (d ++ checkField d).take (d.length + 2) = d ++ checkField d :=
    List.take_of_length_le (by simp)
  rw [crc16, htake, List.foldl_append, hd]
  exact crcByte_not_not _

/-- Every built block is valid (41_block_codec.md R110). -/
theorem validBlock_buildBlock (p : BitVec 48) (c : BitVec 16) (u : BitVec 8) (n : Nat) (o : BitVec 24) (r : BitVec 16) :
    validBlock (buildBlock p c u n o r) = true :=
  beq_iff_eq.mpr (crc16_append_checkField (blockData p c u n o r))

end Sys2Proof.Machine
end

section
/-! Lemmas for 10_state.md: what INSERT, CLICK and each other command changes, stores and answers, said once (R47). -/

namespace Sys2Proof.Machine

/-! ### How a sequence ends -/

/-- The error a sequence raised, if any. -/
def Proc.error : Proc → Option ErrCode
  | .done _ => none
  | .raised e _ => some e

/-- The kind that goes into the response and into `LASTERR` (60_exceptions.md R196). -/
def Proc.code (p : Proc) : ErrCode := p.error.getD .ok

/-- The `VAL` of the response: 0 with an error (30_encoding.md R74). -/
def Proc.val (val : State → BitVec 24) : Proc → BitVec 24
  | .done s => val s
  | .raised _ _ => 0#24

@[simp] theorem Proc.error_done (s : State) : (Proc.done s).error = none := rfl

@[simp] theorem Proc.error_raised (e : ErrCode) (s : State) : (Proc.raised e s).error = some e := rfl

/-- The end of INSERT or CLICK is one response. -/
theorem answerProc_eq (val : State → BitVec 24) (p : Proc) : answerProc val p = respond p.code (p.val val) p.final := by
  cases p <;> rfl

@[simp] theorem latchOutcome_error (p : Proc) : (latchOutcome p).error = p.error := by
  cases p <;> rfl

@[simp] theorem latchOutcome_code (p : Proc) : (latchOutcome p).code = p.code := by
  cases p <;> rfl

/-- `LASTERR` takes the code of the outcome (10_state.md R31). -/
theorem latchOutcome_final (p : Proc) : (latchOutcome p).final = latchErr p.code p.final := by
  cases p <;> rfl

/-- A fixed `VAL` depends on the error alone. -/
theorem Proc.val_const (p : Proc) (v : BitVec 24) :
    p.val (fun _ => v) = if p.error = none then v else 0#24 := by
  cases p <;> simp [Proc.val]

/-- The implicit INSERT of reset drops the response (70_reset_and_hazards.md R221). -/
theorem implicitInsert_eq (s : State) : implicitInsert s = finishBoot (insertProc s).final := by
  rw [implicitInsert]
  cases insertProc s <;> rfl

/-! ### INSERT (45_controller.md R170, R171) -/

@[simp] theorem insertProc_final (s : State) :
    (insertProc s).final = latchErr (insertBody s).code (insertBody s).final := latchOutcome_final _

/-- INSERT leaves BM, how reset stands and the host's inputs alone. -/
theorem insertBody_frame (s : State) :
    (insertBody s).final.bm = s.bm ∧ (insertBody s).final.booting = s.booting ∧
      (insertBody s).final.epoch = s.epoch ∧ (insertBody s).final.inbox = s.inbox := by
  rcases insertBody_spec s with ⟨-, h⟩ | ⟨m, -, ⟨-, h⟩ | ⟨-, -, h⟩ | ⟨-, -, h⟩⟩ <;>
    simp [h, loadedState, bumpCounter]

/-- INSERT never clears READY, and sets it when it succeeds. -/
theorem insertBody_ready (s : State) :
    (s.ready = true → (insertBody s).final.ready = true) ∧
      ((insertBody s).code = .ok → (insertBody s).final.ready = true) := by
  rcases insertBody_spec s with ⟨-, h⟩ | ⟨m, -, ⟨-, h⟩ | ⟨-, -, h⟩ | ⟨-, -, h⟩⟩ <;>
    simp [h, Proc.code, loadedState, bumpCounter]

/-- INSERT answers OK, StorageError or SessionCounterExhausted. -/
theorem insertBody_code (s : State) : legalLasterr (errCode (insertBody s).code) = true := by
  rcases insertBody_spec s with ⟨-, h⟩ | ⟨m, -, ⟨-, h⟩ | ⟨-, -, h⟩ | ⟨-, -, h⟩⟩ <;>
    simp [h, Proc.code, legalLasterr]

/-- A key is 0 beyond its length, and its length fits `KEYLEN` (10_state.md R25). -/
theorem keyRegister_padding (k : Config.KeyText) (i : Fin 16)
    (hi : (BitVec.ofNat 8 k.val.length).toNat ≤ i.val) : (keyRegister k.val)[i] = 0#8 := by
  have hlen : k.val.length ≤ i.val := by
    rwa [BitVec.toNat_ofNat, Nat.mod_eq_of_lt (Nat.lt_succ_of_le k.property)] at hi
  simp [keyRegister, hlen]

/-- `KEY[i]` is 0 for `i` at or beyond `KEYLEN` (10_state.md R25). -/
def keyPadded (s : State) : Prop := ∀ i : Fin 16, s.keylen.toNat ≤ i.val → s.key[i] = 0#8

theorem insertBody_keyPadded {s : State} (hs : keyPadded s) : keyPadded (insertBody s).final := by
  rcases insertBody_spec s with ⟨-, h⟩ | ⟨m, -, ⟨-, h⟩ | ⟨-, -, h⟩ | ⟨-, -, h⟩⟩ <;> rw [h]
  · exact hs
  all_goals exact keyRegister_padding m.aesKey

/-! ### CLICK (45_controller.md R172, 60_exceptions.md R204) -/

@[simp] theorem clickProc_final (s : State) :
    (clickProc s).final = latchErr (clickBody s).code (clickBody s).final := latchOutcome_final _

/-- `onClick` changes the session counter and use, and saves the counter. -/
theorem onClick_final (s : State) : ∃ c u env log,
    (onClick s).final = { s with ctr := c, sessionUse := u, env := env, storeLog := log } := by
  rcases onClick_spec s with ⟨-, h⟩ | ⟨-, -, h⟩ | ⟨-, -, -, h⟩ | ⟨-, -, -, h⟩ <;>
    exact ⟨_, _, _, _, by rw [h]; rfl⟩

/-- Steps 3 to 5 of CLICK store at most the OTP, into OUT, and change nothing else. -/
theorem emitOtp_final (blk : Bytes) (s : State) :
    ∃ vs : Bytes, vs.length ≤ otpLen ∧ (emitOtp blk s).final = memWrite outBase vs s := by
  rcases emitOtp_spec blk s with ⟨-, h⟩ | ⟨-, -, h⟩ | ⟨-, -, h⟩
  · exact ⟨[], Nat.zero_le _, by rw [h]; rfl⟩
  · exact ⟨[], Nat.zero_le _, by rw [h]; rfl⟩
  · exact ⟨otpString s blk, (otpString_length s blk).le, by rw [h]; rfl⟩

/-- CLICK changes the session counter and use, and stores at most the OTP, into OUT. -/
theorem clickBody_final (s : State) : ∃ c u env log, ∃ vs : Bytes, vs.length ≤ otpLen ∧
    (clickBody s).final =
      { s with ctr := c, sessionUse := u, env := env, storeLog := log, bm := bmWrite s.bm outBase vs } := by
  obtain ⟨c, u, env, log, hclick⟩ := onClick_final s
  rcases Bool.eq_false_or_eq_true s.ready with hr | hr
  · rcases clickBody_ready hr with ⟨e, t, hc, h⟩ | ⟨t, hc, h⟩ <;> rw [hc] at hclick
    · exact ⟨c, u, env, log, [], Nat.zero_le _, by rw [h]; exact hclick⟩
    · obtain ⟨vs, hlen, hfinal⟩ := emitOtp_final (blockNow t) (afterDraws t)
      have ht : t = { s with ctr := c, sessionUse := u, env := env, storeLog := log } := hclick
      exact ⟨c, u, _, log, vs, hlen, by rw [h, hfinal, ht]; rfl⟩
  · exact ⟨_, _, _, _, [], Nat.zero_le _, by rw [clickBody_notReady hr]; rfl⟩

/-- The error CLICK answers, the first that applies (60_exceptions.md R204). The self-validation is not among them: the
block it checks has just been built (45_controller.md R174). -/
def clickError (s : State) : Option ErrCode :=
  if s.ready = false then some .notReady
  else if s.sessionUse = 0xFF#8 ∧ s.ctr = 0xFFFF#16 then some .sessionCounterExhausted
  else if s.sessionUse = 0xFF#8 ∧ saveAnswer s = false then some .storageError
  else if keyUsable s then none
  else some .cryptoError

/-- On a built block the key alone decides. -/
theorem emitOtp_error (t s : State) :
    (emitOtp (blockNow t) s).error = if keyUsable s then none else some .cryptoError := by
  have hvalid : validBlock (blockNow t) = true := validBlock_buildBlock _ _ _ _ _ _
  rcases emitOtp_spec (blockNow t) s with ⟨hv, -⟩ | ⟨-, hk, h⟩ | ⟨-, hk, h⟩
  · rw [hvalid] at hv; cases hv
  · simp [h, hk]
  · simp [h, hk]

theorem clickBody_error (s : State) : (clickBody s).error = clickError s := by
  cases hr : s.ready with
  | false => simp [clickBody_notReady hr, clickError, hr]
  | true =>
    rcases onClick_spec s with ⟨hu, h⟩ | ⟨hu, hc, h⟩ | ⟨hu, hc, hs, h⟩ | ⟨hu, hc, hs, h⟩
    · have hne : s.sessionUse ≠ 0xFF#8 := BitVec.ne_of_lt hu
      simp [clickBody, clickError, h, hr, hne, emitOtp_error, keyUsable]
    · simp [clickBody, clickError, h, hr, hu, hc]
    · simp [clickBody, clickError, h, hr, hu, hc, hs, emitOtp_error, keyUsable, bumpCounter]
    · simp [clickBody, clickError, h, hr, hu, hc, hs]

/-- CLICK answers OK, NotReady, SessionCounterExhausted, StorageError or CryptoError. -/
theorem clickBody_code (s : State) : legalLasterr (errCode (clickBody s).code) = true := by
  rw [Proc.code, clickBody_error, clickError]
  split_ifs <;> decide

/-! ### What each command answers, and what a command but INSERT and CLICK changes -/

/-- The response word of each command, from the state before it (30_encoding.md R74). -/
def answer (s : State) : Instr → Word
  | .insert => packRsp (insertProc s).code ((insertProc s).val fun t => zext24 t.ctr)
  | .click => packRsp (clickProc s).code ((clickProc s).val fun _ => BitVec.ofNat 24 otpLen)
  | .crc16 src len => packRsp .ok (zext24 (crc16 (memRead s src len.toNat) len.toNat))
  | .build => if s.ready then packRsp .ok 16#24 else packRsp .notReady 0#24
  | .validate =>
    let blk := memRead s blkBase blockLen
    packRsp (if validBlock blk then .ok else .invalidBlock) (zext24 (crc16 blk blockLen))
  | .aesenc => if keyUsable s then packRsp .ok 16#24 else packRsp .cryptoError 0#24
  | .aesdec => if keyUsable s then packRsp .ok 16#24 else packRsp .cryptoError 0#24
  | .mhenc _ len _ =>
    if len.toNat ≤ 128 then packRsp .ok (BitVec.ofNat 24 (2 * len.toNat)) else packRsp .illegalCommand 0#24
  | .mhdec src len _ =>
    if (modhexDec (memRead s src len.toNat)).isSome then packRsp .ok (BitVec.ofNat 24 (len.toNat / 2))
    else packRsp .invalidEncoding 0#24
  | .rdb addr => packRsp .ok (zext24 (readByte s addr))
  | .wrb _ _ => packRsp .ok 0#24
  | .rdcsr n => (csrValue s n).elim (packRsp .illegalCommand 0#24) (packRsp .ok)

/-- The outcome is a next state that differs from `s` in BM's range of `n` bytes at `a`, in the environment's ports and
in one more response, `w`. -/
def storesAndAnswers (s : State) (a : Byte) (n : Nat) (w : Word) (o : Host.Outcome State Fault Refusal) : Prop :=
  ∃ env, ∃ vs : Bytes, vs.length = n ∧
    o = .next { s with bm := bmWrite s.bm a vs, env := env, rsps := w :: s.rsps }

/-- A response alone stores nothing. -/
theorem storesAndAnswers_respond (s : State) (a : Byte) (e : ErrCode) (v : BitVec 24) :
    storesAndAnswers s a 0 (packRsp e v) (.next (respond e v s)) :=
  ⟨s.env, [], rfl, rfl⟩

theorem storesAndAnswers_raiseError (s : State) (a : Byte) (e : ErrCode) (v : BitVec 24) :
    storesAndAnswers s a 0 (packRsp e v) (.next (raiseError e v s)) :=
  storesAndAnswers_respond s a e v

theorem storesAndAnswers_memWrite (s : State) (a : Byte) {vs : Bytes} {n : Nat} (hn : vs.length = n) (e : ErrCode)
    (v : BitVec 24) : storesAndAnswers s a n (packRsp e v) (.next (respond e v (memWrite a vs s))) :=
  ⟨s.env, vs, hn, rfl⟩

theorem storesAndAnswers_memWrite_afterDraws (s : State) (a : Byte) {vs : Bytes} {n : Nat} (hn : vs.length = n)
    (e : ErrCode) (v : BitVec 24) :
    storesAndAnswers s a n (packRsp e v) (.next (respond e v (memWrite a vs (afterDraws s)))) :=
  ⟨(afterDraws s).env, vs, hn, rfl⟩

/-- A command that stores and succeeds under a guard, and else raises an error. -/
theorem storesAndAnswers_guarded {s t : State} {c : Prop} [Decidable c] {a : Byte} {n : Nat} {e : ErrCode}
    {v : BitVec 24} (h : storesAndAnswers s a n (packRsp .ok v) (.next t)) :
    storesAndAnswers s a (if c then n else 0) (if c then packRsp .ok v else packRsp e 0#24)
      (.next (if c then t else raiseError e 0#24 s)) := by
  split
  · exact h
  · exact storesAndAnswers_raiseError s a e 0#24

theorem execValidate_storesAndAnswers (s : State) :
    storesAndAnswers s 0#8 0 (answer s .validate) (execValidate s) := by
  simp only [execValidate, answer]
  split
  · exact storesAndAnswers_respond s _ _ _
  · exact storesAndAnswers_raiseError s _ _ _

theorem execMhdec_storesAndAnswers (src len dst : Byte) (s : State) :
    storesAndAnswers s dst (storedRange s (.mhdec src len dst)).2 (answer s (.mhdec src len dst))
      (execMhdec src len dst s) := by
  cases hd : modhexDec (memRead s src len.toNat) with
  | none => simpa [execMhdec, storedRange, answer, hd] using storesAndAnswers_raiseError s dst _ _
  | some bs =>
    have hlen : bs.length = len.toNat / 2 := by
      have := modhexDec_length hd
      rw [memRead_length] at this
      omega
    simpa [execMhdec, storedRange, answer, hd, hlen] using storesAndAnswers_memWrite s dst hlen _ _

theorem execRdcsr_storesAndAnswers (n : Byte) (s : State) :
    storesAndAnswers s 0#8 0 (answer s (.rdcsr n)) (execRdcsr n s) := by
  cases hv : csrValue s n with
  | none => simpa [execRdcsr, answer, hv] using storesAndAnswers_raiseError s _ _ _
  | some v => simpa [execRdcsr, answer, hv] using storesAndAnswers_respond s _ _ _

/-- A command but INSERT and CLICK stores to its range, takes what it needs from the environment, answers, and changes
nothing else (10_state.md R47). -/
theorem exec_storesAndAnswers {i : Instr} (hi : i ≠ .insert) (hc : i ≠ .click) (s : State) :
    storesAndAnswers s (storedRange s i).1 (storedRange s i).2 (answer s i) (exec i s) := by
  cases i with
  | insert => exact absurd rfl hi
  | click => exact absurd rfl hc
  | crc16 src len => exact storesAndAnswers_respond s _ _ _
  | build => exact storesAndAnswers_guarded (storesAndAnswers_memWrite_afterDraws s blkBase (blockNow_length s) _ _)
  | validate => exact execValidate_storesAndAnswers s
  | aesenc => exact storesAndAnswers_guarded (storesAndAnswers_memWrite s ctBase (aes128Enc_length _ _) _ _)
  | aesdec => exact storesAndAnswers_guarded (storesAndAnswers_memWrite s blkBase (aes128Dec_length _ _) _ _)
  | mhenc src len dst => exact storesAndAnswers_guarded (storesAndAnswers_memWrite s dst (by simp) _ _)
  | mhdec src len dst => exact execMhdec_storesAndAnswers src len dst s
  | rdb addr => exact storesAndAnswers_respond s _ _ _
  | wrb addr data => exact storesAndAnswers_memWrite s addr (List.length_singleton (a := data)) _ _
  | rdcsr n => exact execRdcsr_storesAndAnswers n s

/-! ### All twelve commands -/

/-- A command is INSERT, CLICK or one of the ten that change no register. -/
theorem exec_cases {i : Instr} {s t : State} (h : exec i s = .next t) :
    (i = .insert ∧ t = respond (insertBody s).code ((insertProc s).val fun t => zext24 t.ctr) (insertProc s).final) ∨
    (i = .click ∧
      t = respond (clickBody s).code ((clickProc s).val fun _ => BitVec.ofNat 24 otpLen) (clickProc s).final) ∨
    (i ≠ .insert ∧ i ≠ .click ∧ ∃ env, ∃ vs : Bytes, vs.length = (storedRange s i).2 ∧
      t = { s with bm := bmWrite s.bm (storedRange s i).1 vs, env := env, rsps := answer s i :: s.rsps }) := by
  by_cases hi : i = .insert
  · subst hi
    refine .inl ⟨rfl, ?_⟩
    rw [← Host.Outcome.next.inj h, answerProc_eq, insertProc, latchOutcome_code]
  by_cases hc : i = .click
  · subst hc
    refine .inr (.inl ⟨rfl, ?_⟩)
    rw [← Host.Outcome.next.inj h, answerProc_eq, clickProc, latchOutcome_code]
  · obtain ⟨env, vs, hl, ht⟩ := exec_storesAndAnswers hi hc s
    exact .inr (.inr ⟨hi, hc, env, vs, hl, Host.Outcome.next.inj (h.symm.trans ht)⟩)

end Sys2Proof.Machine
end

section
/-! Proofs for 10_state.md: what each command stores to and which registers it changes (R47), `LASTERR` and READY (R30,
R31), the secrets in the responses (R43), and the invariant of the state (R25, R30, R31). -/

namespace Sys2Proof.Machine

/-! ### Stores (10_state.md R47, 20_memory.md R55, R56) -/

/-- A command writes at most its range, and no other byte of BM. -/
theorem exec_bm {i : Instr} {s t : State} (h : exec i s = .next t) :
    ∃ vs : Bytes, vs.length ≤ (storedRange s i).2 ∧ t.bm = bmWrite s.bm (storedRange s i).1 vs := by
  rcases exec_cases h with ⟨rfl, rfl⟩ | ⟨rfl, rfl⟩ | ⟨-, -, env, vs, hlen, rfl⟩
  · exact ⟨[], Nat.zero_le _, by simp [insertBody_frame, bmWrite]⟩
  · obtain ⟨c, u, env, log, vs, hlen, hfinal⟩ := clickBody_final s
    exact ⟨vs, hlen, by simp [hfinal, storedRange]⟩
  · exact ⟨vs, hlen.le, rfl⟩

/-- A write within a range keeps every byte outside the range. -/
theorem readByte_memWrite_of_not_inRange_le (s : State) {a b : Byte} {vs : Bytes} {n : Nat} (hn : vs.length ≤ n)
    (hb : inRange b a n = false) : readByte (memWrite a vs s) b = readByte s b := by
  refine readByte_memWrite_outside s fun i hi hba => ?_
  have hsub : (b - a).toNat = i % 256 := by
    rw [hba, BitVec.add_comm, BitVec.add_sub_cancel, BitVec.toNat_ofNat]
  rw [inRange, decide_eq_false_iff_not, hsub] at hb
  omega

/-! ### Register frames (10_state.md R47) -/

/-- No command changes how reset stands or takes a host's input. -/
theorem exec_host_frame {i : Instr} {s t : State} (h : exec i s = .next t) :
    t.booting = s.booting ∧ t.epoch = s.epoch ∧ t.inbox = s.inbox := by
  rcases exec_cases h with ⟨-, rfl⟩ | ⟨-, rfl⟩ | ⟨-, -, env, vs, -, rfl⟩
  · simp [insertBody_frame]
  · obtain ⟨c, u, env, log, vs, -, hfinal⟩ := clickBody_final s
    simp [hfinal]
  · exact ⟨rfl, rfl, rfl⟩

/-- Only INSERT changes the identity registers, the offset and READY. -/
theorem exec_identity_frame {i : Instr} {s t : State} (h : exec i s = .next t) (hi : i ≠ .insert) :
    sameIdentity s t ∧ t.tsoff = s.tsoff ∧ t.ready = s.ready := by
  rcases exec_cases h with ⟨rfl, -⟩ | ⟨-, rfl⟩ | ⟨-, -, env, vs, -, rfl⟩
  · exact absurd rfl hi
  · obtain ⟨c, u, env, log, vs, -, hfinal⟩ := clickBody_final s
    simp [hfinal, sameIdentity]
  · exact ⟨⟨rfl, rfl, rfl, rfl⟩, rfl, rfl⟩

/-- Only INSERT and CLICK change the session registers and the status bits, and call the Store. -/
theorem exec_session_frame {i : Instr} {s t : State} (h : exec i s = .next t) (hi : i ≠ .insert) (hc : i ≠ .click) :
    sameSession s t ∧ t.storeLog = s.storeLog := by
  rcases exec_cases h with ⟨rfl, -⟩ | ⟨rfl, -⟩ | ⟨-, -, env, vs, -, rfl⟩
  · exact absurd rfl hi
  · exact absurd rfl hc
  · exact ⟨⟨rfl, rfl, rfl, rfl, rfl⟩, rfl⟩

/-- Settles O51: the bytes written are in the command's range, and a read depends on BM and the epoch alone. -/
theorem commandsStoreOnlyInTheirRange : Obligations.CommandsStoreOnlyInTheirRange := by
  intro i s t h a ha
  obtain ⟨vs, hlen, hbm⟩ := exec_bm h
  obtain ⟨-, hepoch, -⟩ := exec_host_frame h
  calc readByte t a = readByte (memWrite (storedRange s i).1 vs s) a :=
        readByte_congr (s := memWrite (storedRange s i).1 vs s) hbm hepoch a
    _ = readByte s a := readByte_memWrite_of_not_inRange_le s hlen ha

/-- Settles O52, by the three frames. -/
theorem registerFrames : Obligations.RegisterFrames := fun _ _ _ h =>
  have ⟨hbooting, hepoch, hinbox⟩ := exec_host_frame h
  ⟨hbooting, hepoch, hinbox, exec_identity_frame h, exec_session_frame h⟩

/-! ### LASTERR and READY (10_state.md R30, R31) -/

/-- INSERT and CLICK leave in `LASTERR` the code they answer, one that R31 allows. -/
theorem exec_lasterr {i : Instr} {s t : State} (h : exec i s = .next t) (hi : i = .insert ∨ i = .click) :
    ∃ e v, t.rsps = packRsp e v :: s.rsps ∧ t.lasterr = errCode e ∧ legalLasterr (errCode e) = true := by
  rcases exec_cases h with ⟨-, rfl⟩ | ⟨-, rfl⟩ | ⟨hni, hnc, -⟩
  · exact ⟨_, _, by rw [respond_rsps, insertProc_final, latchErr_rsps, insertBody_rsps], by simp, insertBody_code s⟩
  · exact ⟨_, _, by rw [respond_rsps, clickProc_final, latchErr_rsps, clickBody_rsps], by simp, clickBody_code s⟩
  · exact absurd hi (by simp [hni, hnc])

/-- No command clears READY. -/
theorem exec_ready {i : Instr} {s t : State} (h : exec i s = .next t) (hs : s.ready = true) : t.ready = true := by
  by_cases hi : i = .insert
  · subst hi
    obtain ⟨-, rfl⟩ | ⟨hc, -⟩ | ⟨hne, -⟩ := exec_cases h
    · simpa using (insertBody_ready s).1 hs
    · cases hc
    · exact absurd rfl hne
  · rw [(exec_identity_frame h hi).2.2, hs]

/-- An INSERT that leaves OK in `LASTERR` has set READY. -/
theorem execInsert_ready {s t : State} (h : exec .insert s = .next t) (he : t.lasterr = 0#4) : t.ready = true := by
  obtain ⟨-, rfl⟩ | ⟨hc, -⟩ | ⟨hne, -⟩ := exec_cases h
  · have hcode : (insertBody s).code = .ok := errCode_inj.mp (by
      rw [← latchErr_lasterr, ← insertProc_final]
      exact he)
    simpa using (insertBody_ready s).2 hcode
  · cases hc
  · exact absurd rfl hne

/-- Settles O53: the response and `LASTERR` are made of the same code. -/
theorem lasterrIsTheAnsweredCode : Obligations.LasterrIsTheAnsweredCode := by
  intro i s t h
  refine ⟨fun hi => ?_, fun hi hc => ?_, exec_ready h, fun hi he => execInsert_ready (hi ▸ h) he⟩
  · obtain ⟨e, v, hrsps, hlast, -⟩ := exec_lasterr h hi
    exact ⟨packRsp e v, hrsps, by rw [hlast, rspErr_packRsp]⟩
  · obtain ⟨⟨-, -, -, -, hlast⟩, -⟩ := exec_session_frame h hi hc
    exact hlast

/-! ### The responses and the secrets (10_state.md R43) -/

/-- The state with other secrets. -/
def withSecrets (p : BitVec 48) (k : Vector Byte 16) (s : State) : State := { s with privid := p, key := k }

@[simp] theorem readByte_withSecrets (p : BitVec 48) (k : Vector Byte 16) (s : State) (a : Byte) :
    readByte (withSecrets p k s) a = readByte s a :=
  readByte_congr (s := s) (t := withSecrets p k s) rfl rfl a

@[simp] theorem memRead_withSecrets (p : BitVec 48) (k : Vector Byte 16) (s : State) (a : Byte) (n : Nat) :
    memRead (withSecrets p k s) a n = memRead s a n :=
  memRead_congr (s := s) (t := withSecrets p k s) rfl rfl a n

/-- Each command answers its `answer`. -/
theorem exec_rsps {i : Instr} {s t : State} (h : exec i s = .next t) : t.rsps = answer s i :: s.rsps := by
  rcases exec_cases h with ⟨rfl, rfl⟩ | ⟨rfl, rfl⟩ | ⟨-, -, env, vs, -, rfl⟩
  · simp [answer, insertProc, latchOutcome_final, insertBody_rsps]
  · simp [answer, clickProc, latchOutcome_final, clickBody_rsps]
  · rfl

/-- A load that succeeds overwrites the secrets, and one that fails ends INSERT. -/
theorem answer_insert_withSecrets (p : BitVec 48) (k : Vector Byte 16) (s : State) :
    answer (withSecrets p k s) .insert = answer s .insert := by
  have hload : loadAnswer (withSecrets p k s) = loadAnswer s := rfl
  cases hl : loadAnswer s with
  | none => simp [answer, insertProc, insertBody, hload, hl, Proc.code, Proc.val]
  | some m =>
    have hloaded : loadIdentity m (afterLoad (withSecrets p k s)) = loadIdentity m (afterLoad s) := rfl
    simp only [answer, insertProc, insertBody, hload, hl, hloaded]

/-- No error of CLICK is decided by the secrets: a block with any private identity is valid, and of the key only its
length counts. -/
theorem answer_click_withSecrets (p : BitVec 48) (k : Vector Byte 16) (s : State) :
    answer (withSecrets p k s) .click = answer s .click := by
  have herror : (clickProc (withSecrets p k s)).error = (clickProc s).error := by
    simp only [clickProc, latchOutcome_error, clickBody_error]
    rfl
  simp only [answer, Proc.code, Proc.val_const, herror]

/-- No response depends on the secrets. -/
theorem answer_withSecrets (p : BitVec 48) (k : Vector Byte 16) (s : State) (i : Instr) :
    answer (withSecrets p k s) i = answer s i := by
  cases i with
  | insert => exact answer_insert_withSecrets p k s
  | click => exact answer_click_withSecrets p k s
  | crc16 src len => simp only [answer, memRead_withSecrets]
  | build => rfl
  | validate => simp only [answer, memRead_withSecrets]
  | aesenc => rfl
  | aesdec => rfl
  | mhenc src len dst => rfl
  | mhdec src len dst => simp only [answer, memRead_withSecrets]
  | rdb addr => simp only [answer, readByte_withSecrets]
  | wrb addr data => rfl
  | rdcsr n => rfl

/-- Settles O56: both runs answer the same word, on the same responses before. -/
theorem responsesHideTheSecrets : Obligations.ResponsesHideTheSecrets := by
  intro i s t t' p k h h'
  calc t'.rsps = answer (withSecrets p k s) i :: s.rsps := exec_rsps h'
    _ = answer s i :: s.rsps := by rw [answer_withSecrets]
    _ = t.rsps := (exec_rsps h).symm

/-! ### The invariant -/

/-- Cold registers, an empty BM and legal responses meet the invariant. -/
theorem Inv.of_assertReset {s : State} (hrsps : ∀ w ∈ s.rsps, legalResponse w = true) : Inv (assertReset s) where
  memory := assertReset_bm_wf s
  lasterr := by simp [legalLasterr, errCode]
  keyPadding i _ := by simp
  booting _ := assertReset_ready s
  responses := hrsps

/-- Settles O57: at reset BM is empty, the registers are cold and nothing has been answered. -/
theorem invHoldsAtReset : Obligations.InvHoldsAtReset where
  memory := reset_bm_wf
  lasterr := by decide
  keyPadding := by decide
  booting _ := rfl
  responses := by simp [State.reset]

/-- The invariant does not depend on the host's inputs. -/
theorem Inv.withInbox {s : State} (hs : Inv s) (inbox : List HostInput) : Inv { s with inbox := inbox } :=
  ⟨hs.memory, hs.lasterr, hs.keyPadding, hs.booting, hs.responses⟩

/-- A legal response keeps the invariant. -/
theorem Inv.respond {s : State} (hs : Inv s) {e : ErrCode} {v : BitVec 24}
    (hw : legalResponse (packRsp e v) = true) : Inv (Machine.respond e v s) where
  memory := hs.memory
  lasterr := hs.lasterr
  keyPadding := hs.keyPadding
  booting := hs.booting
  responses w hmem := by
    rcases List.mem_cons.mp hmem with rfl | hmem
    · exact hw
    · exact hs.responses w hmem

/-- The implicit INSERT of reset keeps the invariant (70_reset_and_hazards.md R221). -/
theorem Inv.implicitInsert {s : State} (hs : Inv s) : Inv (Machine.implicitInsert s) := by
  rw [implicitInsert_eq, insertProc_final]
  obtain ⟨hbm, -⟩ := insertBody_frame s
  exact {
    memory := by simpa [hbm] using hs.memory
    lasterr := insertBody_code s
    keyPadding := insertBody_keyPadded hs.keyPadding
    booting := fun hb => absurd hb (by simp)
    responses := by simpa [insertBody_rsps] using hs.responses }

/-- A command keeps `KEY` zero beyond `KEYLEN`. -/
theorem exec_keyPadded {i : Instr} {s t : State} (h : exec i s = .next t) (hs : keyPadded s) : keyPadded t := by
  by_cases hi : i = .insert
  · obtain ⟨-, rfl⟩ | ⟨hc, -⟩ | ⟨hne, -⟩ := exec_cases h
    · rw [insertProc_final]
      exact insertBody_keyPadded hs
    · rw [hi] at hc; cases hc
    · exact absurd hi hne
  · obtain ⟨⟨-, -, hkey, hkeylen⟩, -⟩ := exec_identity_frame h hi
    intro j hj
    rw [hkey]
    exact hs j (hkeylen ▸ hj)

/-- A command keeps `LASTERR` legal. -/
theorem exec_lasterr_legal {i : Instr} {s t : State} (h : exec i s = .next t)
    (hs : legalLasterr s.lasterr = true) : legalLasterr t.lasterr = true := by
  by_cases hi : i = .insert ∨ i = .click
  · obtain ⟨e, v, -, hlast, hlegal⟩ := exec_lasterr h hi
    rw [hlast, hlegal]
  · obtain ⟨hni, hnc⟩ := not_or.mp hi
    obtain ⟨⟨-, -, -, -, hlast⟩, -⟩ := exec_session_frame h hni hnc
    rw [hlast, hs]

/-- A command of the host keeps the invariant. -/
theorem Inv.exec {i : Instr} {s t : State} (hs : Inv s) (hb : s.booting = false)
    (h : Machine.exec i s = .next t) : Inv t where
  memory := by
    obtain ⟨vs, -, hbm⟩ := exec_bm h
    rw [hbm]
    exact bmWrite_wf hs.memory _ vs
  lasterr := exec_lasterr_legal h hs.lasterr
  keyPadding := exec_keyPadded h hs.keyPadding
  booting ht := by
    rw [(exec_host_frame h).1, hb] at ht
    cases ht
  responses w hmem := by
    obtain ⟨t', w', ht', hrsps, hlegal⟩ := exec_answersOnce i s
    obtain rfl : t' = t := Host.Outcome.next.inj (ht'.symm.trans h)
    rcases List.mem_cons.mp (hrsps ▸ hmem) with rfl | hmem
    · exact hlegal
    · exact hs.responses w hmem

/-- Settles O58, by the kinds of step: the implicit INSERT, an idle step, a reset, a command, an illegal word. -/
theorem stepKeepsInv : Obligations.StepKeepsInv := by
  intro s t hs h
  rcases step_cases h with ⟨-, rfl⟩ | ⟨-, -, rfl⟩ | ⟨-, rest, -, rfl⟩ | ⟨hb, w, rest, i, -, -, he⟩ |
    ⟨-, w, rest, e, -, -, rfl⟩
  · exact hs.implicitInsert
  · exact hs
  · exact Inv.of_assertReset hs.responses
  · exact (hs.withInbox rest).exec hb he
  · exact (hs.withInbox rest).respond (by decide)

end Sys2Proof.Machine
end

section
/-! Proofs for 20_memory.md: which command calls the Store, and how often (R58), and the counter that the reference
Store holds (R66). -/

namespace Sys2Proof.Machine

/-! ### The Store calls of INSERT and CLICK, and the `CTR` they leave (44_session.md R157, R159, R163) -/

@[simp] theorem bumpCounter_ctr (s : State) : (bumpCounter s).ctr = s.ctr + 1#16 := rfl

@[simp] theorem bumpCounter_storeLog (s : State) : (bumpCounter s).storeLog = s.storeLog := rfl

@[simp] theorem loadedState_ctr (m : Config.StoreRecord) (s : State) : (loadedState m s).ctr = m.sessionCounter := rfl

@[simp] theorem loadedState_storeLog (m : Config.StoreRecord) (s : State) :
    (loadedState m s).storeLog = .load (loadAnswer s) :: s.storeLog := rfl

/-- INSERT loads; a load that fails ends it, 0xFFFF is loaded and not saved, and any other counter is saved advanced. -/
theorem insertBody_store (s : State) :
    ((insertBody s).final.storeLog = .load none :: s.storeLog ∧ (insertBody s).final.ctr = s.ctr ∧
      (insertBody s).final.ready = s.ready) ∨
    ∃ m, loadAnswer s = some m ∧
      ((m.sessionCounter = 0xFFFF#16 ∧ (insertBody s).final.storeLog = .load (some m) :: s.storeLog ∧
          (insertBody s).final.ctr = m.sessionCounter) ∨
       (m.sessionCounter ≠ 0xFFFF#16 ∧ (insertBody s).final.ctr = m.sessionCounter + 1#16 ∧ ∃ ok,
          (insertBody s).final.storeLog = .save (m.sessionCounter + 1#16) ok :: .load (some m) :: s.storeLog)) := by
  rcases insertBody_spec s with ⟨hl, h⟩ | ⟨m, hl, ⟨hc, h⟩ | ⟨hc, -, h⟩ | ⟨hc, -, h⟩⟩
  · exact .inl (by simp [h, hl])
  · exact .inr ⟨m, hl, .inl ⟨hc, by simp [h, hl]⟩⟩
  · exact .inr ⟨m, hl, .inr ⟨hc, by simp [h, hl]⟩⟩
  · exact .inr ⟨m, hl, .inr ⟨hc, by simp [h, hl]⟩⟩

/-- `onClick` calls the Store only to save the advanced counter at the last use. -/
theorem onClick_store (s : State) :
    ((onClick s).final.storeLog = s.storeLog ∧ (onClick s).final.ctr = s.ctr) ∨
    (s.sessionUse = 0xFF#8 ∧ s.ctr ≠ 0xFFFF#16 ∧ (onClick s).final.ctr = s.ctr + 1#16 ∧ ∃ ok,
      (onClick s).final.storeLog = .save (s.ctr + 1#16) ok :: s.storeLog) := by
  rcases onClick_spec s with ⟨-, h⟩ | ⟨-, -, h⟩ | ⟨hu, hc, -, h⟩ | ⟨hu, hc, -, h⟩
  · exact .inl (by simp [h])
  · exact .inl (by simp [h])
  · exact .inr ⟨hu, hc, by simp [h]⟩
  · exact .inr ⟨hu, hc, by simp [h]⟩

/-- Steps 2 to 5 of CLICK leave `CTR` and the Store as `onClick` left them. -/
theorem clickBody_final_of_ready {s : State} (hr : s.ready = true) :
    (clickBody s).final.storeLog = (onClick s).final.storeLog ∧ (clickBody s).final.ctr = (onClick s).final.ctr := by
  rcases clickBody_ready hr with ⟨e, t, hc, h⟩ | ⟨t, hc, h⟩
  · simp [h, hc]
  · obtain ⟨vs, -, hfinal⟩ := emitOtp_final (blockNow t) (afterDraws t)
    simp [h, hc, hfinal]

/-- CLICK calls the Store only when READY is 1, to save the advanced counter at the last use. -/
theorem clickBody_store (s : State) :
    ((clickBody s).final.storeLog = s.storeLog ∧ (clickBody s).final.ctr = s.ctr) ∨
    (s.ready = true ∧ s.sessionUse = 0xFF#8 ∧ s.ctr ≠ 0xFFFF#16 ∧ (clickBody s).final.ctr = s.ctr + 1#16 ∧ ∃ ok,
      (clickBody s).final.storeLog = .save (s.ctr + 1#16) ok :: s.storeLog) := by
  cases hr : s.ready with
  | false => exact .inl (by simp [clickBody_notReady hr])
  | true =>
    obtain ⟨hlog, hctr⟩ := clickBody_final_of_ready hr
    rw [hlog, hctr]
    exact (onClick_store s).imp_right fun h => ⟨rfl, h⟩

/-! ### How often each command calls the Store (20_memory.md R58) -/

/-- INSERT loads once and saves at most once. -/
theorem insertBody_storeCalls (s : State) :
    (insertBody s).final.storeLog.countP isLoad = s.storeLog.countP isLoad + 1 ∧
      (insertBody s).final.storeLog.countP isSave ≤ s.storeLog.countP isSave + 1 := by
  rcases insertBody_store s with ⟨h, -, -⟩ | ⟨m, -, ⟨-, h, -⟩ | ⟨-, -, ok, h⟩⟩ <;>
    simp [h, List.countP_cons, isLoad, isSave]

/-- CLICK never loads, saves at most once, and does so only at the last use. -/
theorem clickBody_storeCalls (s : State) :
    (clickBody s).final.storeLog.countP isLoad = s.storeLog.countP isLoad ∧
      (clickBody s).final.storeLog.countP isSave ≤ s.storeLog.countP isSave + 1 ∧
      ((clickBody s).final.storeLog.countP isSave ≠ s.storeLog.countP isSave → s.sessionUse = 0xFF#8) := by
  rcases clickBody_store s with ⟨h, -⟩ | ⟨-, hu, -, -, ok, h⟩
  · simp [h]
  · simp [h, hu, List.countP_cons, isLoad, isSave]

/-- Settles O55: INSERT and CLICK by the calls of their bodies, every other command by its frame. -/
theorem storeCallsPerCommand : Obligations.StoreCallsPerCommand := by
  intro i s t h
  rcases exec_cases h with ⟨rfl, rfl⟩ | ⟨rfl, rfl⟩ | ⟨hi, -, env, vs, -, rfl⟩
  · obtain ⟨hload, hsave⟩ := insertBody_storeCalls s
    simp [hload, hsave]
  · obtain ⟨hload, hsave, huse⟩ := clickBody_storeCalls s
    simpa [hload, hsave] using huse
  · simp [hi]

/-! ### The counter of the reference Store (20_memory.md R66, 70_reset_and_hazards.md R224) -/

/-- Below 0xFFFF the session counter advances without wrapping. -/
theorem toNat_ctr_add_one {c : BitVec 16} (hc : c ≠ 0xFFFF#16) : (c + 1#16).toNat = c.toNat + 1 := by
  bv_omega

/-- From `s` to `t` the persisted counter does not fall, and in `t` the registers are not behind it while CLICK can
run. -/
def counterRises (r : Config.StoreRecord) (s t : State) : Prop :=
  counterNotBehind r t ∧ (persisted r.sessionCounter s.storeLog).toNat ≤ (persisted r.sessionCounter t.storeLog).toNat

/-- Nothing is lost where `CTR`, READY and the Store stay as they were. -/
theorem counterRises_of_unchanged {r : Config.StoreRecord} {s t : State} (hs : counterNotBehind r s)
    (hctr : t.ctr = s.ctr) (hready : t.ready = s.ready) (hlog : t.storeLog = s.storeLog) : counterRises r s t := by
  simpa [counterRises, counterNotBehind, hctr, hready, hlog] using hs

/-- A state that answered or set `LASTERR` rises as the state before did. -/
theorem counterRises_congr {r : Config.StoreRecord} {s t u : State} (h : counterRises r s t)
    (hctr : u.ctr = t.ctr) (hready : u.ready = t.ready) (hlog : u.storeLog = t.storeLog) : counterRises r s u := by
  simpa [counterRises, counterNotBehind, hctr, hready, hlog] using h

/-- A save of the counter above one that was not behind leaves the registers ahead or level, whether it fails or not. -/
theorem counterRises_of_save {r : Config.StoreRecord} {s t : State} {c : BitVec 16} {ok : Bool} {calls : List StoreCall}
    (hc : c ≠ 0xFFFF#16) (hle : (persisted r.sessionCounter s.storeLog).toNat ≤ c.toNat)
    (hctr : t.ctr = c + 1#16) (hlog : t.storeLog = .save (c + 1#16) ok :: calls)
    (hcalls : persisted r.sessionCounter calls = persisted r.sessionCounter s.storeLog) : counterRises r s t := by
  have hadd := toNat_ctr_add_one hc
  cases ok with
  | true =>
    simp only [counterRises, counterNotBehind, hlog, hctr, persisted]
    omega
  | false =>
    simp only [counterRises, counterNotBehind, hlog, hctr, persisted, hcalls]
    omega

/-- A load that succeeds returns the persisted counter. -/
theorem refStore_load {r m : Config.StoreRecord} {calls : List StoreCall} (h : refStore r (.load (some m) :: calls)) :
    m.sessionCounter = persisted r.sessionCounter calls := by
  obtain ⟨rfl, -⟩ := h
  rfl

/-- INSERT loads the persisted counter, and goes on from there. -/
theorem insertBody_counterRises {r : Config.StoreRecord} {s : State} (hs : counterNotBehind r s)
    (hr : refStore r (insertBody s).final.storeLog) : counterRises r s (insertBody s).final := by
  rcases insertBody_store s with ⟨hlog, hctr, hready⟩ | ⟨m, -, ⟨-, hlog, hctr⟩ | ⟨hc, hctr, ok, hlog⟩⟩ <;>
    rw [hlog] at hr
  · simpa [counterRises, counterNotBehind, hlog, hctr, hready, persisted] using hs
  · simp [counterRises, counterNotBehind, hlog, hctr, persisted, refStore_load hr]
  · have hload : m.sessionCounter = persisted r.sessionCounter s.storeLog := refStore_load hr
    exact counterRises_of_save hc (by rw [hload]) hctr hlog rfl

/-- CLICK saves `CTR` + 1, which is above the persisted counter. -/
theorem clickBody_counterRises {r : Config.StoreRecord} {s : State} (hs : counterNotBehind r s) :
    counterRises r s (clickBody s).final := by
  rcases clickBody_store s with ⟨hlog, hctr⟩ | ⟨hready, -, hc, hctr, ok, hlog⟩
  · obtain ⟨_, _, _, _, _, -, hfinal⟩ := clickBody_final s
    exact counterRises_of_unchanged hs hctr (by rw [hfinal]) hlog
  · exact counterRises_of_save hc (hs hready) hctr hlog rfl

/-- A command keeps the registers from falling behind the reference Store. -/
theorem exec_counterRises {r : Config.StoreRecord} {i : Instr} {s t : State} (hs : counterNotBehind r s)
    (h : exec i s = .next t) (hr : refStore r t.storeLog) : counterRises r s t := by
  rcases exec_cases h with ⟨-, rfl⟩ | ⟨-, rfl⟩ | ⟨-, -, env, vs, -, rfl⟩
  · exact counterRises_congr (insertBody_counterRises hs (by simpa using hr)) (by simp) (by simp) (by simp)
  · exact counterRises_congr (clickBody_counterRises hs) (by simp) (by simp) (by simp)
  · exact counterRises_of_unchanged hs rfl rfl rfl

/-- The implicit INSERT of reset does what INSERT does (70_reset_and_hazards.md R221). -/
theorem implicitInsert_counterRises {r : Config.StoreRecord} {s : State} (hs : counterNotBehind r s)
    (hr : refStore r (implicitInsert s).storeLog) : counterRises r s (implicitInsert s) := by
  rw [implicitInsert_eq, insertProc_final] at hr ⊢
  exact counterRises_congr (insertBody_counterRises hs hr) (by simp) (by simp) (by simp)

/-- A reset clears READY and leaves the Store alone. -/
theorem assertReset_counterRises (r : Config.StoreRecord) (s : State) : counterRises r s (assertReset s) := by
  simp [counterRises, counterNotBehind]

/-- Settles O60, by the kinds of step: the implicit INSERT, an idle step, a reset, a command, an illegal word. -/
theorem persistedCounterNeverFalls : Obligations.PersistedCounterNeverFalls := by
  intro r s t hs _ h hr
  rcases step_cases h with ⟨-, rfl⟩ | ⟨-, -, rfl⟩ | ⟨-, rest, -, rfl⟩ | ⟨-, w, rest, i, -, -, he⟩ |
    ⟨-, w, rest, e, -, -, rfl⟩
  · exact implicitInsert_counterRises hs hr
  · exact ⟨hs, le_rfl⟩
  · exact assertReset_counterRises r { s with inbox := rest }
  · exact exec_counterRises (s := { s with inbox := rest }) hs he hr
  · exact counterRises_of_unchanged hs rfl rfl rfl

end Sys2Proof.Machine
end

section
/-! Lemmas for 30_encoding.md: the fields of a word (R70), when each part of the decoder accepts (R71, R73), and the rows of
spec/opcode_table.json as conditions on the fields (R72). -/

namespace Sys2Proof

/-! ### The fields of a word (30_encoding.md R70) -/

theorem fieldOp_toNat (w : Word) : (fieldOp w).toNat = w.toNat % 256 := by
  simp [fieldOp]

theorem fieldA_toNat (w : Word) : (fieldA w).toNat = w.toNat / 2 ^ 8 % 256 := by
  simp [fieldA, Nat.shiftRight_eq_div_pow]

theorem fieldB_toNat (w : Word) : (fieldB w).toNat = w.toNat / 2 ^ 16 % 256 := by
  simp [fieldB, Nat.shiftRight_eq_div_pow]

/-- A word has one reading as four bytes, its fields. -/
theorem assemble_eq_iff {w : Word} {op a b c : Byte} :
    assemble op a b c = w ↔ fieldOp w = op ∧ fieldA w = a ∧ fieldB w = b ∧ fieldC w = c := by
  constructor
  · rintro rfl
    simp
  · rintro ⟨rfl, rfl, rfl, rfl⟩
    exact assemble_fields w

/-! ### The decoder's checks (30_encoding.md R71, R73) -/

theorem ifUnusedZero_eq_ok_iff {unused : Bytes} {i j : Instr} :
    ifUnusedZero unused i = .ok j ↔ (∀ b ∈ unused, b = 0) ∧ i = j := by
  have hall : unused.all (· == 0) = true ↔ ∀ b ∈ unused, b = 0 := by simp
  unfold ifUnusedZero
  split
  next h => exact ⟨fun hij => ⟨hall.mp h, Except.ok.inj hij⟩, fun ⟨_, hij⟩ => congrArg Except.ok hij⟩
  next h => exact ⟨nofun, fun ⟨hzero, _⟩ => absurd (hall.mpr hzero) h⟩

theorem decodeMhenc_eq_ok_iff {w : Word} {i : Instr} :
    decodeMhenc w = .ok i ↔ (fieldB w).toNat ≤ 128 ∧ .mhenc (fieldA w) (fieldB w) (fieldC w) = i := by
  unfold decodeMhenc
  split
  next h => simp [Nat.not_le.mpr h]
  next h => simp [Nat.not_lt.mp h]

theorem decodeRdcsr_eq_ok_iff {w : Word} {i : Instr} :
    decodeRdcsr w = .ok i ↔
      (fieldA w).toNat ≤ 4 ∧ ifUnusedZero [fieldB w, fieldC w] (.rdcsr (fieldA w)) = .ok i := by
  unfold decodeRdcsr
  split
  next h => simp [Nat.not_le.mpr h]
  next h => simp [Nat.not_lt.mp h]

/-! ### A word whose unused fields are zero is its command's word (30_encoding.md R71)

One lemma for each number of operands; the opcode is compared as a number, as `decode` does. -/

/-- Three operands. -/
theorem assemble_of_fieldOp {w : Word} {op : Byte} (hop : (fieldOp w).toNat = op.toNat) :
    assemble op (fieldA w) (fieldB w) (fieldC w) = w :=
  assemble_eq_iff.mpr ⟨BitVec.eq_of_toNat_eq hop, rfl, rfl, rfl⟩

section
variable {w : Word} {op : Byte} {i j : Instr}

/-- No operand. -/
theorem wf_and_encode_of_unusedABC (hi : i.wf = true) (he : encode i = assemble op 0 0 0)
    (hop : (fieldOp w).toNat = op.toNat) (h : ifUnusedZero [fieldA w, fieldB w, fieldC w] i = .ok j) :
    j.wf = true ∧ encode j = w := by
  obtain ⟨hzero, rfl⟩ := ifUnusedZero_eq_ok_iff.mp h
  exact ⟨hi, he.trans (assemble_eq_iff.mpr ⟨BitVec.eq_of_toNat_eq hop, by simpa using hzero⟩)⟩

/-- The operand `A`. -/
theorem wf_and_encode_of_unusedBC (hi : i.wf = true) (he : encode i = assemble op (fieldA w) 0 0)
    (hop : (fieldOp w).toNat = op.toNat) (h : ifUnusedZero [fieldB w, fieldC w] i = .ok j) :
    j.wf = true ∧ encode j = w := by
  obtain ⟨hzero, rfl⟩ := ifUnusedZero_eq_ok_iff.mp h
  exact ⟨hi, he.trans (assemble_eq_iff.mpr ⟨BitVec.eq_of_toNat_eq hop, rfl, by simpa using hzero⟩)⟩

/-- The operands `A` and `B`. -/
theorem wf_and_encode_of_unusedC (hi : i.wf = true) (he : encode i = assemble op (fieldA w) (fieldB w) 0)
    (hop : (fieldOp w).toNat = op.toNat) (h : ifUnusedZero [fieldC w] i = .ok j) :
    j.wf = true ∧ encode j = w := by
  obtain ⟨hzero, rfl⟩ := ifUnusedZero_eq_ok_iff.mp h
  exact ⟨hi, he.trans (assemble_eq_iff.mpr ⟨BitVec.eq_of_toNat_eq hop, rfl, rfl, by simpa using hzero⟩)⟩

end

/-- The two operand checks, read off the command's word (R73). -/
theorem wf_iff_fields (i : Instr) :
    i.wf = true ↔ ((fieldOp (encode i)).toNat = 0x30 → (fieldB (encode i)).toNat ≤ 128) ∧
      ((fieldOp (encode i)).toNat = 0x42 → (fieldA (encode i)).toNat ≤ 4) := by
  cases i <;> simp [Instr.wf, encode]

/-! ### The rows of the opcode table (30_encoding.md R72) -/

/-- The (mask, match) pairs of spec/opcode_table.json, row by row. -/
def tableRows : List (Word × Word) :=
  [(0xFFFFFFFF, 0x00000001), (0xFFFFFFFF, 0x00000002), (0xFF0000FF, 0x00000010), (0xFFFFFFFF, 0x00000011),
    (0xFFFFFFFF, 0x00000012), (0xFFFFFFFF, 0x00000020), (0xFFFFFFFF, 0x00000021), (0x000000FF, 0x00000030),
    (0x000000FF, 0x00000031), (0xFFFF00FF, 0x00000040), (0xFF0000FF, 0x00000041), (0xFFFF00FF, 0x00000042)]

/-- A word matches under a mask when each of its fields does. -/
theorem and_assemble_eq_assemble_iff {w : Word} {mop ma mb mc op a b c : Byte} :
    w &&& assemble mop ma mb mc = assemble op a b c ↔
      fieldOp w &&& mop = op ∧ fieldA w &&& ma = a ∧ fieldB w &&& mb = b ∧ fieldC w &&& mc = c := by
  conv_lhs => rw [← assemble_fields w, assemble_and, eq_comm]
  simp [assemble_eq_iff]

/-- The mask 0xFF keeps a field whole. -/
theorem byte_and_FF (b : Byte) : b &&& 0xFF = b := BitVec.and_allOnes

section
variable {w : Word} {op : Byte}

/-- A row of a command with no operand. -/
theorem assemble_of_maskOpABC (h : w &&& 0xFFFFFFFF = assemble op 0 0 0) : assemble op 0 0 0 = w :=
  h.symm.trans BitVec.and_allOnes

/-- A row of a command with the operand `A`. -/
theorem assemble_of_maskOpBC (h : w &&& 0xFFFF00FF = assemble op 0 0 0) : assemble op (fieldA w) 0 0 = w := by
  have h : w &&& assemble 0xFF 0 0xFF 0xFF = assemble op 0 0 0 := h
  simp only [and_assemble_eq_assemble_iff, byte_and_FF] at h
  obtain ⟨hop, -, hb, hc⟩ := h
  exact assemble_eq_iff.mpr ⟨hop, rfl, hb, hc⟩

/-- A row of a command with the operands `A` and `B`. -/
theorem assemble_of_maskOpC (h : w &&& 0xFF0000FF = assemble op 0 0 0) :
    assemble op (fieldA w) (fieldB w) 0 = w := by
  have h : w &&& assemble 0xFF 0 0 0xFF = assemble op 0 0 0 := h
  simp only [and_assemble_eq_assemble_iff, byte_and_FF] at h
  obtain ⟨hop, -, -, hc⟩ := h
  exact assemble_eq_iff.mpr ⟨hop, rfl, rfl, hc⟩

/-- A row of a command with three operands. -/
theorem assemble_of_maskOp (h : w &&& 0x000000FF = assemble op 0 0 0) :
    assemble op (fieldA w) (fieldB w) (fieldC w) = w := by
  have h : w &&& assemble 0xFF 0 0 0 = assemble op 0 0 0 := h
  simp only [and_assemble_eq_assemble_iff, byte_and_FF] at h
  obtain ⟨hop, -⟩ := h
  exact assemble_eq_iff.mpr ⟨hop, rfl, rfl, rfl⟩

end

open Laws.TableRow in
/-- The word of any command, well formed or not, matches the command's row. -/
theorem encode_and_mask (i : Instr) : encode i &&& mask i = pattern i := by
  cases i with
  | insert => exact insert
  | click => exact click
  | crc16 src len => exact crc16 src len
  | build => exact build
  | validate => exact validate
  | aesenc => exact aesenc
  | aesdec => exact aesdec
  | mhenc src len dst => exact mhenc src len dst
  | mhdec src len dst => exact mhdec src len dst
  | rdb addr => exact rdb addr
  | wrb addr data => exact wrb addr data
  | rdcsr n => exact rdcsr n

open Laws.TableRow in
/-- Each row of the table is the row of a command. -/
theorem mem_tableRows_iff {r : Word × Word} : r ∈ tableRows ↔ ∃ i, r = (mask i, pattern i) := by
  constructor
  · simp only [tableRows, List.mem_cons, List.not_mem_nil, or_false]
    rintro (h | h | h | h | h | h | h | h | h | h | h | h)
    exacts [⟨.insert, h⟩, ⟨.click, h⟩, ⟨.crc16 0 0, h⟩, ⟨.build, h⟩, ⟨.validate, h⟩, ⟨.aesenc, h⟩, ⟨.aesdec, h⟩,
      ⟨.mhenc 0 0 0, h⟩, ⟨.mhdec 0 0 0, h⟩, ⟨.rdb 0, h⟩, ⟨.wrb 0 0, h⟩, ⟨.rdcsr 0, h⟩]
  · rintro ⟨i, rfl⟩
    cases i <;> simp [tableRows, mask, pattern]

open Laws.TableRow in
/-- A word that matches a command's row is the word of a command, of that one with other operands. -/
theorem exists_encode_of_and_mask {w : Word} (i : Instr) (h : w &&& mask i = pattern i) : ∃ j, encode j = w := by
  cases i with
  | insert => exact ⟨.insert, assemble_of_maskOpABC h⟩
  | click => exact ⟨.click, assemble_of_maskOpABC h⟩
  | crc16 => exact ⟨.crc16 _ _, assemble_of_maskOpC h⟩
  | build => exact ⟨.build, assemble_of_maskOpABC h⟩
  | validate => exact ⟨.validate, assemble_of_maskOpABC h⟩
  | aesenc => exact ⟨.aesenc, assemble_of_maskOpABC h⟩
  | aesdec => exact ⟨.aesdec, assemble_of_maskOpABC h⟩
  | mhenc => exact ⟨.mhenc _ _ _, assemble_of_maskOp h⟩
  | mhdec => exact ⟨.mhdec _ _ _, assemble_of_maskOp h⟩
  | rdb => exact ⟨.rdb _, assemble_of_maskOpBC h⟩
  | wrb => exact ⟨.wrb _ _, assemble_of_maskOpC h⟩
  | rdcsr => exact ⟨.rdcsr _, assemble_of_maskOpBC h⟩

/-- The words that match a row are those of the commands, well formed or not. -/
theorem exists_row_iff_exists_encode {w : Word} :
    (∃ r ∈ tableRows, w &&& r.1 = r.2) ↔ ∃ i, encode i = w := by
  constructor
  · rintro ⟨r, hr, h⟩
    obtain ⟨i, rfl⟩ := mem_tableRows_iff.mp hr
    exact exists_encode_of_and_mask i h
  · rintro ⟨i, rfl⟩
    exact ⟨_, mem_tableRows_iff.mpr ⟨i, rfl⟩, encode_and_mask i⟩

end Sys2Proof
end

section
/-! Proofs for 30_encoding.md: decoding and encoding agree and the legal words are those of the opcode table (R70 to R78),
a step runs the decoded command or answers IllegalCommand (R76), and the layout of a response (R74). -/

namespace Sys2Proof

/-! ### Decoding and encoding (30_encoding.md R70 to R73, R78) -/

theorem decode_encode {i : Instr} (hi : i.wf = true) : decode (encode i) = .ok i := by
  cases i with
  | insert => rfl
  | click => rfl
  | crc16 src len => simp [encode, decode, ifUnusedZero]
  | build => rfl
  | validate => rfl
  | aesenc => rfl
  | aesdec => rfl
  | mhenc src len dst => simpa [encode, decode, decodeMhenc_eq_ok_iff, Instr.wf] using hi
  | mhdec src len dst => simp [encode, decode]
  | rdb addr => simp [encode, decode, ifUnusedZero]
  | wrb addr data => simp [encode, decode, ifUnusedZero]
  | rdcsr n => simpa [encode, decode, decodeRdcsr_eq_ok_iff, ifUnusedZero, Instr.wf] using hi

/-- Settles O1: the fields of an assembled word are its parts, and a well-formed command passes its operand check. -/
theorem decodeInvertsEncode : Obligations.DecodeInvertsEncode := fun _ => decode_encode

/-- The branches of `decode` in order, each with the opcode it compares; the last is that of no opcode. -/
theorem wf_and_encode_of_decode {w : Word} {i : Instr} (h : decode w = .ok i) : i.wf = true ∧ encode i = w := by
  unfold decode at h
  split at h
  next hop => exact wf_and_encode_of_unusedABC (i := .insert) rfl rfl hop h
  next hop => exact wf_and_encode_of_unusedABC (i := .click) rfl rfl hop h
  next hop => exact wf_and_encode_of_unusedC (i := .crc16 _ _) rfl rfl hop h
  next hop => exact wf_and_encode_of_unusedABC (i := .build) rfl rfl hop h
  next hop => exact wf_and_encode_of_unusedABC (i := .validate) rfl rfl hop h
  next hop => exact wf_and_encode_of_unusedABC (i := .aesenc) rfl rfl hop h
  next hop => exact wf_and_encode_of_unusedABC (i := .aesdec) rfl rfl hop h
  next hop =>
    obtain ⟨hlen, rfl⟩ := decodeMhenc_eq_ok_iff.mp h
    exact ⟨decide_eq_true hlen, assemble_of_fieldOp hop⟩
  next hop =>
    obtain rfl := Except.ok.inj h
    exact ⟨rfl, assemble_of_fieldOp hop⟩
  next hop => exact wf_and_encode_of_unusedBC (i := .rdb _) rfl rfl hop h
  next hop => exact wf_and_encode_of_unusedC (i := .wrb _ _) rfl rfl hop h
  next hop =>
    obtain ⟨hn, hzero⟩ := decodeRdcsr_eq_ok_iff.mp h
    exact wf_and_encode_of_unusedBC (i := .rdcsr _) (decide_eq_true hn) rfl hop hzero
  next => cases h

/-- Settles O2: the branch that accepted has compared `OP` and every unused field, so all four fields are those of the
command's word. -/
theorem decodedWordIsItsEncoding : Obligations.DecodedWordIsItsEncoding := fun _ _ => wf_and_encode_of_decode

/-- The decoder accepts exactly the words of the well-formed commands. -/
theorem decode_eq_ok_iff {w : Word} {i : Instr} : decode w = .ok i ↔ i.wf = true ∧ encode i = w := by
  constructor
  · exact wf_and_encode_of_decode
  · rintro ⟨hi, rfl⟩
    exact decode_encode hi

/-- Settles O3: the words that match a row are those of the commands, and the constraints say that the command is well
formed. -/
theorem legalWordsAreTheTableRows : Obligations.LegalWordsAreTheTableRows := by
  intro w
  change _ ↔ (∃ r ∈ tableRows, w &&& r.1 = r.2) ∧ _
  simp only [exists_row_iff_exists_encode, decode_eq_ok_iff, ← fieldOp_toNat, ← fieldA_toNat, ← fieldB_toNat]
  constructor
  · rintro ⟨i, hi, rfl⟩
    exact ⟨⟨i, rfl⟩, (wf_iff_fields i).mp hi⟩
  · rintro ⟨⟨i, rfl⟩, hconstraints⟩
    exact ⟨i, (wf_iff_fields i).mpr hconstraints, rfl⟩

/-- Settles O4: the decoder, evaluated on each word. -/
theorem writtenOutWordsDecode : Obligations.WrittenOutWordsDecode :=
  ⟨rfl, rfl, rfl, rfl, rfl, rfl, rfl, rfl, rfl, rfl, rfl, rfl⟩

end Sys2Proof

namespace Sys2Proof.Machine

/-! ### A step on a command word (30_encoding.md R73, R76) -/

/-- Settles O5: the branch of `step` for a word that decodes. -/
theorem stepRunsTheDecodedCommand : Obligations.StepRunsTheDecodedCommand :=
  fun _ _ _ _ => step_of_decode_ok

theorem packRsp_illegalCommand : packRsp .illegalCommand 0#24 = 0x00000006#32 := by decide

theorem raiseError_illegalCommand (s : State) :
    raiseError .illegalCommand 0#24 s = { s with rsps := 0x00000006#32 :: s.rsps } := by
  rw [raiseError, respond, packRsp_illegalCommand]

/-- Settles O6: the word is taken, and an illegal word only raises IllegalCommand. -/
theorem illegalWordHasNoEffect : Obligations.IllegalWordHasNoEffect := by
  intro s w rest e hb hi hd
  rw [step_of_decode_error hb hi hd, illegalWord, raiseError_illegalCommand]

/-- There is no CSR above 4 (10_state.md R32). -/
theorem csrValue_eq_none (s : State) {n : Byte} (hn : 4 < n.toNat) : csrValue s n = none := by
  unfold csrValue
  split
  case h_6 => rfl
  all_goals omega

theorem execRdcsr_of_four_lt (s : State) {n : Byte} (hn : 4 < n.toNat) :
    execRdcsr n s = .next (raiseError .illegalCommand 0#24 s) := by
  rw [execRdcsr, csrValue_eq_none s hn]

theorem execMhenc_of_lt (s : State) (src dst : Byte) {len : Byte} (hlen : 128 < len.toNat) :
    execMhenc src len dst s = .next (raiseError .illegalCommand 0#24 s) := by
  rw [execMhenc, if_neg (Nat.not_le.mpr hlen)]

/-- Settles O49: each of the two commands checks its operand first, and then only raises IllegalCommand. -/
theorem operandsWithoutEncoding : Obligations.OperandsWithoutEncoding := by
  intro s
  constructor
  · intro n hn
    rw [exec, execRdcsr_of_four_lt s hn, raiseError_illegalCommand]
  · intro src len dst hlen
    rw [exec, execMhenc_of_lt s src dst hlen, raiseError_illegalCommand]

/-! ### The response word (30_encoding.md R74) -/

/-- `++` puts its left side above its right one. -/
theorem toNat_append_eq_add {m n : Nat} (x : BitVec m) (y : BitVec n) :
    (x ++ y).toNat = x.toNat * 2 ^ n + y.toNat := by
  rw [BitVec.toNat_append, ← Nat.shiftLeft_add_eq_or_of_lt y.isLt, Nat.shiftLeft_eq]

theorem packRsp_toNat (e : ErrCode) (v : BitVec 24) : (packRsp e v).toNat = v.toNat * 256 + (errCode e).toNat := by
  calc (packRsp e v).toNat
      = (v.toNat * 2 ^ 4 + (0#4).toNat) * 2 ^ 4 + (errCode e).toNat := by
        rw [← toNat_append_eq_add v 0#4, ← toNat_append_eq_add (v ++ 0#4) (errCode e)]; rfl
    _ = v.toNat * 256 + (errCode e).toNat := by simp; omega

/-- Settles O7: the value stands above eight bits, and each kind has its own code. -/
theorem responseWordLayout : Obligations.ResponseWordLayout :=
  ⟨packRsp_toNat, rfl⟩

end Sys2Proof.Machine
end

section
/-! Proofs for 40_crc16.md: the response of CRC16 (R95), the residue law (R93) and the laws of the CRC (R92). -/

namespace Sys2Proof.Machine

/-! ### The command (40_crc16.md R95) -/

/-- Settles O28: CRC16 only responds, with the zero-extended CRC of its range. -/
theorem crc16AnswersTheRange : Obligations.Crc16AnswersTheRange := fun s src len =>
  calc exec (.crc16 src len) s
      = execCrc16 src len s := rfl
    _ = .next { s with
          rsps := packRsp .ok ((crc16 (memRead s src len.toNat) len.toNat).setWidth 24) :: s.rsps } := by
        simp only [execCrc16, respond, zext24]

/-! ### The residue (40_crc16.md R93) -/

/-- Settles O29: the two bytes of the statement are the check field, whose residue is proved from the linearity. -/
theorem crcResidueLaw : Obligations.CrcResidueLaw :=
  crc16_append_checkField

/-! ### The laws (40_crc16.md R92) -/

/-- Running over `x` and then over `y` is running over both. -/
theorem crc16_append (x y : Bytes) : crc16 (x ++ y) (x.length + y.length) = y.foldl crcByte (crc16 x x.length) := by
  rw [crc16, crc16, ← List.length_append, List.take_length, List.take_length, List.foldl_append]

/-- The byte step is linear in the value and the byte jointly. -/
theorem crcByte_xor (r q : BitVec 16) (b c : Byte) : crcByte (r ^^^ q) (b ^^^ c) = crcByte r b ^^^ crcByte q c := by
  have hregroup : r ^^^ q ^^^ (b.setWidth 16 ^^^ c.setWidth 16) = r ^^^ b.setWidth 16 ^^^ (q ^^^ c.setWidth 16) := by
    ac_rfl
  rw [crcByte, BitVec.setWidth_xor, hregroup, crcSteps_xor, crcByte, crcByte]

/-- The top bit of the polynomial is set, so an iteration leaves the bit it tests there. -/
theorem crcStep_getLsbD_top (r : BitVec 16) : (crcStep r).getLsbD 15 = r.getLsbD 0 := by
  rw [crcStep]
  split
  next h => simp [h, crcPoly]
  next h => simpa using h

/-- The bit tested can be read back, and with it the bits shifted. -/
theorem crcStep_injective : Function.Injective crcStep := by
  intro r q h
  have hlow : r.getLsbD 0 = q.getLsbD 0 := by rw [← crcStep_getLsbD_top, h, crcStep_getLsbD_top]
  have hshift : r >>> 1 = q >>> 1 := by
    rw [crcStep, crcStep, hlow] at h
    split at h
    · exact (BitVec.xor_left_inj _).mp h
    · exact h
  refine BitVec.eq_of_getLsbD_eq fun i _ => ?_
  cases i with
  | zero => exact hlow
  | succ i => rw [Nat.add_comm, ← BitVec.getLsbD_ushiftRight, hshift, BitVec.getLsbD_ushiftRight]

theorem crcSteps_injective (n : Nat) : Function.Injective (crcSteps n) := by
  induction n with
  | zero => exact Function.injective_id
  | succ n ih => exact ih.comp crcStep_injective

/-- For a fixed byte the step is injective, and there are finitely many words. -/
theorem crcByte_bijective (b : Byte) : Function.Bijective fun r => crcByte r b :=
  Finite.injective_iff_bijective.mp fun _ _ h => (BitVec.xor_left_inj _).mp (crcSteps_injective 8 h)

/-- The low byte of a word, widened again, is the word under the mask. -/
theorem setWidth_byteOf_zero (r : BitVec 16) : (byteOf r 0).setWidth 16 = r &&& 0xFF#16 := by
  have hmask : r.toNat &&& 0xFF = r.toNat % 2 ^ 8 := Nat.and_two_pow_sub_one_eq_mod r.toNat 8
  refine BitVec.eq_of_toNat_eq ?_
  simp [byteOf, hmask]
  omega

/-- The high byte of a word, widened again, is the word shifted down. -/
theorem setWidth_byteOf_one (r : BitVec 16) : (byteOf r 1).setWidth 16 = r >>> 8 := by
  refine BitVec.eq_of_toNat_eq ?_
  simp [byteOf, Nat.shiftRight_eq_div_pow]
  omega

/-- Eight iterations bring the high byte down unchanged; only the low byte goes through the polynomial. -/
theorem crcSteps_eight (r : BitVec 16) : crcSteps 8 r = (r >>> 8) ^^^ crcSteps 8 (r &&& 0xFF#16) :=
  calc crcSteps 8 r
      = crcSteps 8 ((byteOf r 0).setWidth 16) ^^^ crcSteps 8 ((byteOf r 1).setWidth 16 <<< 8) := by
        rw [← crcSteps_xor, ← eq_lowByte_xor_highByte]
    _ = (r >>> 8) ^^^ crcSteps 8 (r &&& 0xFF#16) := by
        rw [crcSteps_highByte, setWidth_byteOf_one, setWidth_byteOf_zero, BitVec.xor_comm]

/-- A byte XORed in does not reach the high byte. -/
theorem xor_setWidth_ushiftRight_eight (r : BitVec 16) (b : Byte) : (r ^^^ b.setWidth 16) >>> 8 = r >>> 8 := by
  have hbyte : b.setWidth 16 >>> 8 = 0#16 := BitVec.eq_of_getLsbD_eq fun i _ => by simp
  rw [BitVec.ushiftRight_xor_distrib, hbyte, BitVec.xor_zero]

/-- The table form: the high byte comes down unchanged, and the low byte with `b` XORed in indexes the table. -/
theorem crcByte_eq_table (r : BitVec 16) (b : Byte) :
    crcByte r b = (r >>> 8) ^^^ crcByte ((r ^^^ b.setWidth 16) &&& 0xFF#16) 0#8 := by
  rw [crcByte, crcSteps_eight, xor_setWidth_ushiftRight_eight, crcByte, BitVec.setWidth_zero, BitVec.xor_zero]

/-- Settles O30: each law in its turn; the first and the third say what `crc16` takes of its string. -/
theorem crcLaws : Obligations.CrcLaws :=
  ⟨fun _ => rfl, crc16_append, fun _ _ _ h => by rw [crc16, crc16, h], crcByte_xor, crcByte_bijective, crcByte_eq_table⟩

end Sys2Proof.Machine
end

section
/-! Proofs for 41_block_codec.md: the pseudo-timestamp (R104), the layout of a block (R100 to R107) and its validity
(R110), and the commands BUILD (R111) and VALIDATE (R112). -/

namespace Sys2Proof.Machine

/-! ### The pseudo-timestamp (41_block_codec.md R104) -/

/-- Settles O31: subtraction of words adds the 24-bit complement of the offset, and the integer difference has the same
remainder, from above 0 or from below. -/
theorem timestampIsModularDifference : Obligations.TimestampIsModularDifference := by
  intro now tsoff
  have hoff : tsoff.toNat < 2 ^ 24 := tsoff.isLt
  have hts : (pseudoTimestamp now tsoff).toNat = (2 ^ 24 - tsoff.toNat + now % 2 ^ 24) % 2 ^ 24 := by
    rw [pseudoTimestamp, BitVec.toNat_sub, BitVec.toNat_ofNat]
  omega

/-! ### The fields of a block (41_block_codec.md R100 to R107) -/

/-- Byte `k` of a little-endian field is its `k`-th digit to base 256 (20_memory.md R51). -/
theorem byteOf_toNat {n : Nat} (v : BitVec n) (k : Nat) : (byteOf v k).toNat = v.toNat / 256 ^ k % 256 := by
  have hbase : (256 : Nat) ^ k = 2 ^ (8 * k) := (Nat.pow_mul 2 8 k).symm
  rw [byteOf, BitVec.extractLsb'_toNat, Nat.shiftRight_eq_div_pow, hbase]

/-- The CRC of a string's first bytes does not see what follows it. -/
theorem crc16_append_left (d x : Bytes) : crc16 (d ++ x) d.length = crc16 d d.length := by
  rw [crc16, crc16, List.take_left, List.take_length]

section Fields

variable (privid : BitVec 48) (ctr : BitVec 16) (su : BitVec 8) (now : Nat) (tsoff : BitVec 24) (rnd : BitVec 16)

/-- Bytes 0..5 (41_block_codec.md R101). -/
theorem buildBlock_privid {k : Nat} (hk : k < 6) :
    (buildBlock privid ctr su now tsoff rnd).getD k 0 = byteOf privid k := by
  interval_cases k <;> rfl

/-- Bytes 6..7 (41_block_codec.md R102). -/
theorem buildBlock_ctr {k : Nat} (hk : k < 2) :
    (buildBlock privid ctr su now tsoff rnd).getD (6 + k) 0 = byteOf ctr k := by
  interval_cases k <;> rfl

/-- Bytes 8..10 (41_block_codec.md R103). -/
theorem buildBlock_pseudoTimestamp {k : Nat} (hk : k < 3) :
    (buildBlock privid ctr su now tsoff rnd).getD (8 + k) 0 = byteOf (pseudoTimestamp now tsoff) k := by
  interval_cases k <;> rfl

/-- Byte 11 (41_block_codec.md R105). -/
theorem buildBlock_use : (buildBlock privid ctr su now tsoff rnd).getD 11 0 = su := rfl

/-- Bytes 12..13 (41_block_codec.md R106). -/
theorem buildBlock_random {k : Nat} (hk : k < 2) :
    (buildBlock privid ctr su now tsoff rnd).getD (12 + k) 0 = byteOf rnd k := by
  interval_cases k <;> rfl

/-- Bytes 14..15: the check field of the data is that of the block's own first 14 bytes (41_block_codec.md R107). -/
theorem buildBlock_checkField {k : Nat} (hk : k < 2) :
    (buildBlock privid ctr su now tsoff rnd).getD (14 + k) 0 =
      byteOf (~~~ crc16 (buildBlock privid ctr su now tsoff rnd) 14) k := by
  have hdata : crc16 (buildBlock privid ctr su now tsoff rnd) 14 = crc16 (blockData privid ctr su now tsoff rnd) 14 :=
    crc16_append_left (blockData privid ctr su now tsoff rnd) _
  rw [hdata]
  interval_cases k <;> rfl

end Fields

/-- Settles O32: each field's bytes stand at its offset, and the bytes of a field are its digits to base 256. -/
theorem blockLayout : Obligations.BlockLayout := by
  intro privid ctr su now tsoff rnd blk
  refine ⟨buildBlock_length .., fun k hk => ?_, fun k hk => ?_, fun k hk => ?_, buildBlock_use .., fun k hk => ?_,
    fun k hk => ?_⟩
  · rw [buildBlock_privid _ _ _ _ _ _ hk, byteOf_toNat]
  · rw [buildBlock_ctr _ _ _ _ _ _ hk, byteOf_toNat]
  · rw [buildBlock_pseudoTimestamp _ _ _ _ _ _ hk, byteOf_toNat]
  · rw [buildBlock_random _ _ _ _ _ _ hk, byteOf_toNat]
  · rw [buildBlock_checkField _ _ _ _ _ _ hk, byteOf_toNat, BitVec.toNat_not]

/-- Settles O33: the block is its data with their check field, whose residue is proved from the linearity of the CRC. -/
theorem builtBlockIsValid : Obligations.BuiltBlockIsValid :=
  validBlock_buildBlock

/-! ### BUILD (41_block_codec.md R111) -/

/-- The state BUILD leaves when READY is set. -/
def afterBuild (s : State) : State :=
  respond .ok 16#24 (memWrite blkBase (blockNow s) (afterDraws s))

theorem exec_build_of_ready {s : State} (hr : s.ready = true) : exec .build s = .next (afterBuild s) := by
  rw [exec, execBuild, if_pos hr, afterBuild]

/-- BLK holds the block built. -/
theorem memRead_afterBuild (s : State) : memRead (afterBuild s) blkBase blockLen = blockNow s := by
  rw [afterBuild, memRead_respond]
  exact memRead_memWrite (afterDraws s) blkBase (vs := blockNow s) (by simp)

/-- BUILD keeps every byte outside BLK. -/
theorem readByte_afterBuild_of_not_inRange (s : State) {a : Byte} (ha : inRange a blkBase blockLen = false) :
    readByte (afterBuild s) a = readByte s a := by
  rw [afterBuild, readByte_respond, readByte_memWrite_of_not_inRange _ (by simp) ha, readByte_afterDraws]

theorem packRsp_blockLen : packRsp .ok 16#24 = 0x00001000#32 := by decide

/-- Beside BM, BUILD takes one draw and one reading of the clock, and answers. -/
theorem afterBuild_eq (s : State) :
    afterBuild s = { s with
      bm := (afterBuild s).bm
      env := { s.env with draws16 := s.env.draws16.next, nows := s.env.nows.next }
      rsps := 0x00001000#32 :: s.rsps } := by
  simp only [afterBuild, respond, packRsp_blockLen, memWrite, afterDraws]

/-- Settles O34: with READY the guard passes, and what it leaves is read back, kept outside BLK, and written out. -/
theorem buildWritesTheBlock : Obligations.BuildWritesTheBlock := fun s hr =>
  ⟨afterBuild s, exec_build_of_ready hr, memRead_afterBuild s, fun _ => readByte_afterBuild_of_not_inRange s,
    afterBuild_eq s⟩

/-! ### VALIDATE (41_block_codec.md R112) -/

/-- VALIDATE answers OK or InvalidBlock as BLK is valid or not, with the CRC computed either way. -/
theorem exec_validate (s : State) :
    exec .validate s = .next (respond (if validBlock (memRead s blkBase blockLen) then .ok else .invalidBlock)
      (zext24 (crc16 (memRead s blkBase blockLen) blockLen)) s) := by
  rw [exec, execValidate]
  cases validBlock (memRead s blkBase blockLen) <;> rfl

theorem validBlock_iff {blk : Bytes} : validBlock blk = true ↔ crc16 blk blockLen = crcResidue := by
  rw [validBlock, beq_iff_eq]

theorem packRsp_residue : packRsp .ok (zext24 crcResidue) = 0x00F0B800#32 := by decide

/-- A valid BLK region is answered with OK and the residue. -/
theorem exec_validate_of_validBlock {s : State} (hv : validBlock (memRead s blkBase blockLen) = true) :
    exec .validate s = .next { s with rsps := 0x00F0B800#32 :: s.rsps } := by
  rw [exec_validate, if_pos hv, validBlock_iff.mp hv, respond, packRsp_residue]

/-- An invalid BLK region is answered with InvalidBlock and its CRC. -/
theorem exec_validate_of_not_validBlock {s : State} (hv : ¬ validBlock (memRead s blkBase blockLen) = true) :
    exec .validate s = .next { s with
      rsps := packRsp .invalidBlock (zext24 (crc16 (memRead s blkBase blockLen) blockLen)) :: s.rsps } := by
  rw [exec_validate, if_neg hv, respond]

/-- Settles O35: a block is valid exactly when its CRC is the residue, and each outcome only adds its response. -/
theorem validateAnswersTheCrc : Obligations.ValidateAnswersTheCrc := fun _ =>
  ⟨fun hcrc => exec_validate_of_validBlock (validBlock_iff.mpr hcrc),
    fun hcrc => exec_validate_of_not_validBlock fun hv => hcrc (validBlock_iff.mp hv)⟩

/-- Settles O36: after BUILD the BLK region holds a built block, and a built block is valid. -/
theorem buildThenValidateSucceeds : Obligations.BuildThenValidateSucceeds := fun s hr =>
  have hvalid : validBlock (memRead (afterBuild s) blkBase blockLen) = true := by
    rw [memRead_afterBuild]
    exact validBlock_buildBlock ..
  ⟨afterBuild s, exec_build_of_ready hr, exec_validate_of_validBlock hvalid⟩

end Sys2Proof.Machine
end

section
/-! Proofs for 42_cipher.md: the cipher and the inverse cipher undo each other (R126), and the commands AESENC (R128) and
AESDEC (R129). -/

namespace Sys2Proof.Machine

/-! ### Field arithmetic (42_cipher.md R118) -/

/-- Doubling is linear over XOR: the reduction is added once for each summand whose top bit is set. -/
theorem xtime_xor (a b : Byte) : xtime (a ^^^ b) = xtime a ^^^ xtime b := by
  simp only [xtime, BitVec.getLsbD_xor, BitVec.shiftLeft_xor_distrib]
  cases a.getLsbD 7 <;> cases b.getLsbD 7
  case false.false => rfl
  case false.true => simp [BitVec.xor_assoc]
  case true.false => simp only [Bool.bne_false, if_true, Bool.false_eq_true, if_false]; ac_rfl
  case true.true => simp [BitVec.xor_comm _ 0x1B#8, xor_xor_xor_cancel_left]

/-! ### SubBytes, ShiftRows and AddRoundKey are undone (42_cipher.md R121, R124) -/

/-- `INVSBOX` takes the entries of `SBOX` back to their places. -/
theorem sboxTable_map_invSbox : sboxTable.map invSbox = (List.range 256).map (BitVec.ofNat 8) := by decide +kernel

theorem sboxTable_length : sboxTable.length = 256 := by
  simpa using congrArg List.length sboxTable_map_invSbox

theorem invSbox_sbox (a : Byte) : invSbox (sbox a) = a := by
  have ha : a.toNat < sboxTable.length := sboxTable_length ▸ a.isLt
  have hentry := List.getElem_of_eq sboxTable_map_invSbox (i := a.toNat) (by rwa [List.length_map])
  rw [sbox, List.getD_eq_getElem _ _ ha]
  simpa using hentry

theorem invSubBytes_subBytes (s : AesBlock) : invSubBytes (subBytes s) = s := by
  simp only [invSubBytes, subBytes, mapCols, mapQuad, invSbox_sbox]

theorem invShiftRows_shiftRows (s : AesBlock) : invShiftRows (shiftRows s) = s := rfl

theorem xorQuad_xorQuad (q k : Quad) : xorQuad (xorQuad q k) k = q := by
  simp only [xorQuad, BitVec.xor_assoc, BitVec.xor_self, BitVec.xor_zero]

/-- AddRoundKey undoes itself, whatever the round key. -/
theorem addRoundKey_addRoundKey (s k : AesBlock) : addRoundKey (addRoundKey s k) k = s := by
  simp only [addRoundKey, xorQuad_xorQuad]

/-! ### MixColumns is undone (42_cipher.md R121, R124)

Both matrices are circulant, so that row 0 of their product says what the other rows are. Its coefficients are 1, 0, 0, 0
as sums of powers of `xtime`, before any reduction of the field. -/

/-- 14·2 + 11·1 + 13·1 + 9·3 = 1, 14·3 + 11·2 + 13·1 + 9·1 = 0, 14·1 + 11·3 + 13·2 + 9·1 = 0 and
14·1 + 11·1 + 13·3 + 9·2 = 0: beside that 1, each power of `xtime` occurs an even number of times. -/
theorem invMix_mix_coefficients (a : Byte) :
    mul14 (xtime a) ^^^ mul11 a ^^^ mul13 a ^^^ mul9 (mul3 a) = a ∧
    mul14 (mul3 a) ^^^ mul11 (xtime a) ^^^ mul13 a ^^^ mul9 a = 0#8 ∧
    mul14 a ^^^ mul11 (mul3 a) ^^^ mul13 (xtime a) ^^^ mul9 a = 0#8 ∧
    mul14 a ^^^ mul11 a ^^^ mul13 (mul3 a) ^^^ mul9 (xtime a) = 0#8 := by
  simp only [mul14, mul13, mul11, mul9, mul8, mul4, mul3, xtime_xor]
  refine ⟨?_, ?_, ?_, ?_⟩ <;> grind

/-- Row 0 of the product, collected by the byte of the column. -/
theorem invMixQuad_mixQuad_b0 (q : Quad) : (invMixQuad (mixQuad q)).b0 = q.b0 :=
  calc (invMixQuad (mixQuad q)).b0
      = (mul14 (xtime q.b0) ^^^ mul11 q.b0 ^^^ mul13 q.b0 ^^^ mul9 (mul3 q.b0)) ^^^
          (mul14 (mul3 q.b1) ^^^ mul11 (xtime q.b1) ^^^ mul13 q.b1 ^^^ mul9 q.b1) ^^^
          (mul14 q.b2 ^^^ mul11 (mul3 q.b2) ^^^ mul13 (xtime q.b2) ^^^ mul9 q.b2) ^^^
          (mul14 q.b3 ^^^ mul11 q.b3 ^^^ mul13 (mul3 q.b3) ^^^ mul9 (xtime q.b3)) := by
        simp only [invMixQuad, mixQuad, mul14, mul13, mul11, mul9, mul8, mul4, mul3, xtime_xor]
        ac_rfl
    _ = q.b0 := by simp only [invMix_mix_coefficients, BitVec.xor_zero]

/-- Each row of MixColumns is row 0 of the rotated column. -/
theorem mixQuad_rotWord (q : Quad) : mixQuad (rotWord q) = rotWord (mixQuad q) := by
  simp only [mixQuad, rotWord, Quad.mk.injEq]
  refine ⟨?_, ?_, ?_, ?_⟩ <;> ac_rfl

/-- Each row of InvMixColumns is row 0 of the rotated column. -/
theorem invMixQuad_rotWord (q : Quad) : invMixQuad (rotWord q) = rotWord (invMixQuad q) := by
  simp only [invMixQuad, rotWord, Quad.mk.injEq]
  refine ⟨?_, ?_, ?_, ?_⟩ <;> ac_rfl

/-- A map of columns that commutes with rotation and keeps row 0 keeps the column. -/
theorem eq_self_of_rotWord {f : Quad → Quad} (hrot : ∀ q, f (rotWord q) = rotWord (f q)) (h0 : ∀ q, (f q).b0 = q.b0)
    (q : Quad) : f q = q := by
  have h1 (q : Quad) : (f q).b1 = q.b1 := (congrArg Quad.b0 (hrot q)).symm.trans (h0 (rotWord q))
  have h2 (q : Quad) : (f q).b2 = q.b2 := (congrArg Quad.b1 (hrot q)).symm.trans (h1 (rotWord q))
  have h3 (q : Quad) : (f q).b3 = q.b3 := (congrArg Quad.b2 (hrot q)).symm.trans (h2 (rotWord q))
  calc f q = ⟨(f q).b0, (f q).b1, (f q).b2, (f q).b3⟩ := rfl
    _ = q := by rw [h0, h1, h2, h3]

theorem invMixQuad_mixQuad (q : Quad) : invMixQuad (mixQuad q) = q :=
  eq_self_of_rotWord (f := fun q => invMixQuad (mixQuad q)) (fun q => by rw [mixQuad_rotWord, invMixQuad_rotWord])
    invMixQuad_mixQuad_b0 q

theorem invMixColumns_mixColumns (s : AesBlock) : invMixColumns (mixColumns s) = s := by
  simp only [invMixColumns, mixColumns, mapCols, invMixQuad_mixQuad]

/-! ### The rounds (42_cipher.md R123, R125) -/

/-- The inverse rounds start where the last round of the cipher stands before its round key: after `n` full rounds, then
SubBytes and ShiftRows. -/
theorem decRounds_encRounds (key inp : AesBlock) (n : Nat) :
    decRounds key n (shiftRows (subBytes (encRounds key inp n))) = inp := by
  induction n with
  | zero => rw [decRounds, encRounds, invShiftRows_shiftRows, invSubBytes_subBytes, addRoundKey_addRoundKey]
  | succ n ih =>
    rw [decRounds, encRounds, invShiftRows_shiftRows, invSubBytes_subBytes, addRoundKey_addRoundKey,
      invMixColumns_mixColumns, ih]

theorem decBlock_encBlock (key : AesBlock) : Function.LeftInverse (decBlock key) (encBlock key) := fun inp => by
  rw [decBlock, encBlock, addRoundKey_addRoundKey, decRounds_encRounds]

/-! ### Blocks and their bytes, and the other direction (42_cipher.md R117, R126) -/

theorem blockOfBytes_blockBytes (s : AesBlock) : blockOfBytes (blockBytes s) = s := rfl

/-- A block is its 16 bytes, so there are finitely many. -/
theorem finite_aesBlock : Finite AesBlock :=
  Finite.of_surjective (fun v : List.Vector Byte 16 => blockOfBytes v.val) fun s => ⟨⟨blockBytes s, rfl⟩, rfl⟩

/-- The cipher is injective, as it can be undone; on finitely many blocks it is then onto, and so it undoes the inverse
cipher too. -/
theorem encBlock_decBlock (key : AesBlock) : Function.RightInverse (decBlock key) (encBlock key) :=
  have := finite_aesBlock
  (decBlock_encBlock key).rightInverse_of_surjective
    (Finite.injective_iff_surjective.mp (decBlock_encBlock key).injective)

theorem blockBytes_blockOfBytes {bs : Bytes} (hl : bs.length = 16) : blockBytes (blockOfBytes bs) = bs := by
  refine List.ext_getElem hl.symm fun i hi _ => ?_
  rw [blockBytes_length] at hi
  interval_cases i <;> simp [blockBytes, quadBytes, blockOfBytes, quadOfBytes, hl]

theorem aes128Dec_aes128Enc (k : Bytes) {b : Bytes} (hb : b.length = 16) : aes128Dec k (aes128Enc k b) = b := by
  rw [aes128Dec, aes128Enc, blockOfBytes_blockBytes, decBlock_encBlock, blockBytes_blockOfBytes hb]

theorem aes128Enc_aes128Dec (k : Bytes) {b : Bytes} (hb : b.length = 16) : aes128Enc k (aes128Dec k b) = b := by
  rw [aes128Enc, aes128Dec, blockOfBytes_blockBytes, encBlock_decBlock, blockBytes_blockOfBytes hb]

/-- Settles O37: the inverse cipher undoes the cipher transformation by transformation, and the cipher the inverse cipher
because there are finitely many blocks. -/
theorem aesRoundTrip : Obligations.AesRoundTrip := fun k _ _ hb =>
  ⟨aes128Dec_aes128Enc k hb, aes128Enc_aes128Dec k hb⟩

/-! ### What AESENC and AESDEC leave (42_cipher.md R116, R128, R129) -/

theorem packRsp_cryptoError : packRsp .cryptoError 0#24 = 0x00000003#32 := by decide

theorem raiseError_cryptoError (s : State) :
    raiseError .cryptoError 0#24 s = { s with rsps := 0x00000003#32 :: s.rsps } := by
  rw [raiseError, respond, packRsp_cryptoError]

theorem keyUsable_iff {s : State} : keyUsable s = true ↔ s.keylen = 16#8 := by
  rw [keyUsable, beq_iff_eq]

/-- The state a command of the cipher leaves when it stores the block `vs` at `base`. -/
def afterCipher (base : Byte) (vs : Bytes) (s : State) : State :=
  respond .ok 16#24 (memWrite base vs s)

theorem exec_aesenc_of_keylen {s : State} (hk : s.keylen = 16#8) :
    exec .aesenc s = .next (afterCipher ctBase (aes128Enc s.key.toList (memRead s blkBase blockLen)) s) := by
  rw [exec, execAesenc, if_pos (keyUsable_iff.mpr hk), afterCipher]

theorem exec_aesdec_of_keylen {s : State} (hk : s.keylen = 16#8) :
    exec .aesdec s = .next (afterCipher blkBase (aes128Dec s.key.toList (memRead s ctBase blockLen)) s) := by
  rw [exec, execAesdec, if_pos (keyUsable_iff.mpr hk), afterCipher]

/-- Settles O38: the guard of both commands fails, and they only raise CryptoError. -/
theorem badKeyCipherCommands : Obligations.BadKeyCipherCommands := by
  intro s hk
  have hguard : ¬ keyUsable s = true := fun h => hk (keyUsable_iff.mp h)
  constructor
  · rw [exec, execAesenc, if_neg hguard, raiseError_cryptoError]
  · rw [exec, execAesdec, if_neg hguard, raiseError_cryptoError]

section

variable (s : State) (base : Byte) {vs : Bytes} (hl : vs.length = blockLen)
include hl

theorem memRead_afterCipher : memRead (afterCipher base vs s) base blockLen = vs := by
  rw [afterCipher, memRead_respond, ← hl]
  exact memRead_memWrite s base (by rw [hl]; decide)

theorem readByte_afterCipher_of_not_inRange {a : Byte} (ha : inRange a base blockLen = false) :
    readByte (afterCipher base vs s) a = readByte s a := by
  rw [afterCipher, readByte_respond, readByte_memWrite_of_not_inRange_le s hl.le ha]

end

/-- Beside BM, a command of the cipher only answers. -/
theorem afterCipher_eq (base : Byte) (vs : Bytes) (s : State) :
    afterCipher base vs s = { s with bm := (afterCipher base vs s).bm, rsps := 0x00001000#32 :: s.rsps } := by
  simp only [afterCipher, respond, packRsp_blockLen, memWrite]

/-- Settles O39: the ciphertext is read back from CT, and all else is kept. -/
theorem aesencWritesCt : Obligations.AesencWritesCt := fun s hk =>
  ⟨_, exec_aesenc_of_keylen hk, memRead_afterCipher s ctBase (aes128Enc_length _ _),
    fun _ => readByte_afterCipher_of_not_inRange s ctBase (aes128Enc_length _ _), afterCipher_eq _ _ s⟩

/-- Settles O40: the plaintext is read back from BLK, and all else is kept. -/
theorem aesdecWritesBlk : Obligations.AesdecWritesBlk := fun s hk =>
  ⟨_, exec_aesdec_of_keylen hk, memRead_afterCipher s blkBase (aes128Dec_length _ _),
    fun _ => readByte_afterCipher_of_not_inRange s blkBase (aes128Dec_length _ _), afterCipher_eq _ _ s⟩

/-! ### AESENC, then AESDEC (42_cipher.md R126, R129) -/

/-- Two states that read alike in a range agree on each of its bytes. -/
theorem readByte_eq_of_memRead_eq {s t : State} {base a : Byte} {n : Nat} (h : memRead t base n = memRead s base n)
    (ha : inRange a base n = true) : readByte t a = readByte s a := by
  have hi : (a - base).toNat < n := of_decide_eq_true ha
  have haddr : base + BitVec.ofNat 8 (a - base).toNat = a := by
    rw [BitVec.ofNat_toNat, BitVec.setWidth_eq, BitVec.add_comm, BitVec.sub_add_cancel]
  have hbyte (u : State) : (memRead u base n)[(a - base).toNat]? = some (readByte u a) := by
    rw [List.getElem?_eq_getElem (by rwa [memRead_length]), memRead_getElem, haddr]
  exact Option.some.inj (by rw [← hbyte, ← hbyte, h])

/-- Settles O41: AESDEC decrypts what AESENC left in CT, which is the encryption of the old BLK. -/
theorem aesencThenAesdecRestoresBlk : Obligations.AesencThenAesdecRestoresBlk := by
  intro s hk
  obtain ⟨t, henc, hct, hkeepEnc, ht⟩ := aesencWritesCt s hk
  have hkey : t.key = s.key := by rw [ht]
  have hkeylen : t.keylen = 16#8 := by rw [ht, hk]
  obtain ⟨u, hdec, hblk, hkeepDec, -⟩ := aesdecWritesBlk t hkeylen
  have hrestored : memRead u 0x00#8 16 = memRead s 0x00#8 16 := by
    rw [hblk, hkey, hct, aes128Dec_aes128Enc _ (memRead_length ..)]
  refine ⟨t, u, henc, hdec, fun a ha => ?_⟩
  cases hin : inRange a 0x00#8 16 with
  | true => exact readByte_eq_of_memRead_eq hrestored hin
  | false => rw [hkeepDec a hin, hkeepEnc a ha]

end Sys2Proof.Machine
end

section
/-! Proofs for 43_modhex.md: decoding undoes encoding and fails where R142 says (R142, R143), and the commands MHENC (R146)
and MHDEC (R147). -/

namespace Sys2Proof.Machine

/-! ### Characters and nibbles (43_modhex.md R140, R144) -/

theorem mhVal_mhChar (v : BitVec 4) : mhVal (mhChar v) = some v := by
  revert v
  decide

/-- A code that has a value is that value's character. -/
theorem mhChar_of_mhVal {c : Byte} {v : BitVec 4} (h : mhVal c = some v) : mhChar v = c := by
  unfold mhVal at h
  split at h
  case h_17 => cases h
  all_goals
    next hc =>
      cases h
      exact BitVec.eq_of_toNat_eq hc.symm

/-- Every value indexes the table. -/
theorem mhChar_mem_mhTable (v : BitVec 4) : mhChar v ∈ mhTable := by
  have hv : v.toNat < mhTable.length := v.isLt
  rw [mhChar, List.getD_eq_getElem _ _ hv]
  exact List.getElem_mem hv

theorem mhVal_ne_none_of_mem_mhTable : ∀ c ∈ mhTable, mhVal c ≠ none := by decide

/-- The codes without a value are those outside the table. -/
theorem mhVal_eq_none_iff {c : Byte} : mhVal c = none ↔ c ∉ mhTable := by
  refine ⟨fun h hmem => mhVal_ne_none_of_mem_mhTable c hmem h, fun hmem => ?_⟩
  cases h : mhVal c with
  | none => rfl
  | some v => exact absurd (mhChar_of_mhVal h ▸ mhChar_mem_mhTable v) hmem

theorem highNibble_append_lowNibble (b : Byte) : highNibble b ++ lowNibble b = b :=
  calc highNibble b ++ lowNibble b
      = b.extractLsb' 0 8 := BitVec.extractLsb'_append_extractLsb'_eq_extractLsb' rfl
    _ = b := BitVec.extractLsb'_eq_self

theorem highNibble_append (a b : BitVec 4) : highNibble (a ++ b) = a :=
  BitVec.extractLsb'_append_eq_left

theorem lowNibble_append (a b : BitVec 4) : lowNibble (a ++ b) = b :=
  BitVec.extractLsb'_append_eq_right

/-! ### Decoding, a pair of characters at a time (43_modhex.md R142) -/

/-- A pair decodes to one byte in front of what the rest decodes to, if all three parts decode. -/
theorem modhexDec_pair (x y : Byte) (cs : Bytes) : modhexDec (x :: y :: cs) =
    (mhVal x).bind fun a => (mhVal y).bind fun b => (modhexDec cs).map ((a ++ b) :: ·) := by
  rw [modhexDec]
  split
  next a b r hx hy hr => rw [hx, hy, hr]; rfl
  next hfail =>
    refine (Option.bind_eq_none_iff.mpr fun a hx => Option.bind_eq_none_iff.mpr fun b hy => ?_).symm
    exact Option.map_eq_none_iff.mpr (Option.eq_none_iff_forall_not_mem.mpr fun r hr => hfail a b r hx hy hr)

theorem modhexDec_pair_eq_some_iff {x y : Byte} {cs bs : Bytes} : modhexDec (x :: y :: cs) = some bs ↔
    ∃ a, mhVal x = some a ∧ ∃ b, mhVal y = some b ∧ ∃ r, modhexDec cs = some r ∧ (a ++ b) :: r = bs := by
  simp only [modhexDec_pair, Option.bind_eq_some_iff, Option.map_eq_some_iff]

theorem modhexDec_pair_eq_none_iff {x y : Byte} {cs : Bytes} :
    modhexDec (x :: y :: cs) = none ↔ mhVal x = none ∨ mhVal y = none ∨ modhexDec cs = none := by
  rw [modhexDec_pair]
  cases mhVal x with
  | none => simp
  | some a =>
    cases mhVal y with
    | none => simp
    | some b => simp

/-! ### The round trips (43_modhex.md R143) -/

theorem modhexDec_modhexEnc (bs : Bytes) : modhexDec (modhexEnc bs) = some bs := by
  induction bs with
  | nil => rfl
  | cons b bs ih =>
    rw [modhexEnc, modhexDec_pair_eq_some_iff]
    exact ⟨_, mhVal_mhChar _, _, mhVal_mhChar _, bs, ih, by rw [highNibble_append_lowNibble]⟩

theorem modhexEnc_of_modhexDec {cs bs : Bytes} (h : modhexDec cs = some bs) : modhexEnc bs = cs := by
  induction cs using List.twoStepInduction generalizing bs with
  | nil => cases h; rfl
  | singleton => cases h
  | cons_cons x y cs ih =>
    obtain ⟨a, hx, b, hy, r, hr, rfl⟩ := modhexDec_pair_eq_some_iff.mp h
    rw [modhexEnc, highNibble_append, lowNibble_append, mhChar_of_mhVal hx, mhChar_of_mhVal hy, ih hr]

/-- Settles O42: encoding and decoding go pair by pair, where character and value determine each other. -/
theorem modHexRoundTrip : Obligations.ModHexRoundTrip :=
  ⟨modhexDec_modhexEnc, fun _ _ => modhexEnc_of_modhexDec⟩

theorem modhexDec_eq_none_iff (cs : Bytes) :
    modhexDec cs = none ↔ cs.length % 2 = 1 ∨ ∃ c ∈ cs, c ∉ mhTable := by
  induction cs using List.twoStepInduction with
  | nil => simp [modhexDec]
  | singleton x => simp [modhexDec]
  | cons_cons x y cs ih =>
    have hlen : (x :: y :: cs).length % 2 = cs.length % 2 := Nat.add_mod_right cs.length 2
    rw [modhexDec_pair_eq_none_iff, mhVal_eq_none_iff, mhVal_eq_none_iff, ih, hlen, List.exists_mem_cons_iff,
      List.exists_mem_cons_iff]
    tauto

/-- Settles O43: the codes of the statement are the table, and each pair fails for a code outside it. -/
theorem modHexDecodeFailsExactly : Obligations.ModHexDecodeFailsExactly :=
  modhexDec_eq_none_iff

/-! ### What MHENC and MHDEC leave (43_modhex.md R146, R147) -/

/-- The state a ModHex command leaves when it stores `vs` at `dst` and answers with their number. -/
def afterModHex (dst : Byte) (vs : Bytes) (s : State) : State :=
  respond .ok (BitVec.ofNat 24 vs.length) (memWrite dst vs s)

section

variable (s : State) (dst : Byte) {vs : Bytes}

theorem readByte_afterModHex_inside (hl : vs.length ≤ 256) {i : Nat} {b : Byte} (hb : vs[i]? = some b) :
    readByte (afterModHex dst vs s) (dst + BitVec.ofNat 8 i) = b := by
  obtain ⟨hi, rfl⟩ := List.getElem?_eq_some_iff.mp hb
  rw [afterModHex, readByte_respond, readByte_memWrite_inside s dst hl hi]

theorem memRead_afterModHex (hl : vs.length ≤ 256) : memRead (afterModHex dst vs s) dst vs.length = vs := by
  rw [afterModHex, memRead_respond, memRead_memWrite s dst hl]

theorem readByte_afterModHex_of_not_inRange {a : Byte} (ha : inRange a dst vs.length = false) :
    readByte (afterModHex dst vs s) a = readByte s a := by
  rw [afterModHex, readByte_respond, readByte_memWrite_of_not_inRange_le s le_rfl ha]

/-- Beside BM, a ModHex command only answers. -/
theorem afterModHex_eq : afterModHex dst vs s = { s with
    bm := (afterModHex dst vs s).bm, rsps := packRsp .ok (BitVec.ofNat 24 vs.length) :: s.rsps } := by
  simp only [afterModHex, respond, memWrite]

end

/-! ### MHENC (43_modhex.md R146) -/

theorem exec_mhenc_of_le (s : State) (src dst : Byte) {len : Byte} (hlen : len.toNat ≤ 128) :
    exec (.mhenc src len dst) s = .next (afterModHex dst (modhexEnc (memRead s src len.toNat)) s) := by
  rw [exec, execMhenc, if_pos hlen, afterModHex, modhexEnc_length, memRead_length]

/-- The characters of byte `i` stand at `2 * i` and `2 * i + 1` (43_modhex.md R141). -/
theorem modhexEnc_getElem? {bs : Bytes} {i : Nat} (hi : i < bs.length) :
    (modhexEnc bs)[2 * i]? = some (mhChar (highNibble bs[i])) ∧
      (modhexEnc bs)[2 * i + 1]? = some (mhChar (lowNibble bs[i])) := by
  induction bs generalizing i with
  | nil => cases hi
  | cons b bs ih =>
    cases i with
    | zero => exact ⟨rfl, rfl⟩
    | succ i => exact ih (Nat.lt_of_succ_lt_succ hi)

/-- Settles O44: the bytes encoded are those of the state before, and their characters do not overlap in BM. -/
theorem mhencWritesCharacters : Obligations.MhencWritesCharacters := by
  intro s src len dst hlen
  have hcount : (modhexEnc (memRead s src len.toNat)).length = 2 * len.toNat := by
    rw [modhexEnc_length, memRead_length]
  have hfits : (modhexEnc (memRead s src len.toNat)).length ≤ 256 := by omega
  refine ⟨_, exec_mhenc_of_le s src dst hlen, fun i hi => ?_, fun a ha => ?_, hcount ▸ afterModHex_eq s dst⟩
  · obtain ⟨hhigh, hlow⟩ := modhexEnc_getElem? (bs := memRead s src len.toNat) (by rwa [memRead_length])
    rw [memRead_getElem] at hhigh hlow
    exact ⟨readByte_afterModHex_inside s dst hfits hhigh, readByte_afterModHex_inside s dst hfits hlow⟩
  · exact readByte_afterModHex_of_not_inRange s dst (hcount ▸ ha)

/-! ### MHDEC (43_modhex.md R147) -/

theorem packRsp_invalidEncoding : packRsp .invalidEncoding 0#24 = 0x00000004#32 := by decide

theorem raiseError_invalidEncoding (s : State) :
    raiseError .invalidEncoding 0#24 s = { s with rsps := 0x00000004#32 :: s.rsps } := by
  rw [raiseError, respond, packRsp_invalidEncoding]

/-- A range that decodes gives half as many bytes as it has characters. -/
theorem length_of_modhexDec_memRead {s : State} {src : Byte} {n : Nat} {bs : Bytes}
    (h : modhexDec (memRead s src n) = some bs) : bs.length = n / 2 := by
  have hlen := modhexDec_length h
  rw [memRead_length] at hlen
  omega

theorem exec_mhdec_of_some {s : State} {src len : Byte} (dst : Byte) {bs : Bytes}
    (h : modhexDec (memRead s src len.toNat) = some bs) :
    exec (.mhdec src len dst) s = .next (afterModHex dst bs s) := by
  simp only [exec, execMhdec, h, afterModHex, length_of_modhexDec_memRead h]

theorem exec_mhdec_of_none {s : State} {src len : Byte} (dst : Byte)
    (h : modhexDec (memRead s src len.toNat) = none) :
    exec (.mhdec src len dst) s = .next { s with rsps := 0x00000004#32 :: s.rsps } := by
  simp only [exec, execMhdec, h, raiseError_invalidEncoding]

/-- Settles O45: the two outcomes of the decoder; the bytes of a success are at most 127, and are read back. -/
theorem mhdecWritesBytesOrFails : Obligations.MhdecWritesBytesOrFails := by
  intro s src len dst
  refine ⟨fun bs h => ?_, exec_mhdec_of_none dst⟩
  rw [← length_of_modhexDec_memRead h]
  have hle : bs.length ≤ 256 := by
    have := length_of_modhexDec_memRead h
    have := len.isLt
    omega
  exact ⟨_, exec_mhdec_of_some dst h, memRead_afterModHex s dst hle,
    fun _ => readByte_afterModHex_of_not_inRange s dst, afterModHex_eq s dst⟩

end Sys2Proof.Machine
end

section
/-! Proofs for 44_session.md: `CTR` agrees with the last Store call (R155, R163), one save per counter increment (R163,
10_state.md R29), and clicks count in base 256 (R162(c)). -/

namespace Sys2Proof.Machine

/-! ### What INSERT and CLICK do to the session (44_session.md R157 to R160) -/

@[simp] theorem bumpCounter_sessionUse (s : State) : (bumpCounter s).sessionUse = 0#8 := rfl

@[simp] theorem loadedState_sessionUse (m : Config.StoreRecord) (s : State) :
    (loadedState m s).sessionUse = s.sessionUse := rfl

/-- The session and the record of Store calls stand in `t` as in `s`. -/
def sessionKept (s t : State) : Prop :=
  t.sessionUse = s.sessionUse ∧ t.ctr = s.ctr ∧ t.storeLog = s.storeLog

/-- From `s` to `t` the use advances by 1, and nothing else of the session changes (R159). -/
def useAdvanced (s t : State) : Prop :=
  t.sessionUse.toNat = s.sessionUse.toNat + 1 ∧ t.ctr = s.ctr ∧ t.storeLog = s.storeLog

/-- `CTR` in `t` is one above `c`, the use is reset, and one save of the new `CTR` has been added to `calls` (R163). -/
def savedIncrement (c : BitVec 16) (calls : List StoreCall) (t : State) : Prop :=
  (∃ ok, t.storeLog = .save t.ctr ok :: calls) ∧ t.ctr.toNat = c.toNat + 1 ∧ t.sessionUse = 0#8

/-- An increment is one in every state with the same session. -/
theorem savedIncrement_of_sessionKept {c : BitVec 16} {calls : List StoreCall} {t u : State}
    (h : savedIncrement c calls t) (hk : sessionKept t u) : savedIncrement c calls u := by
  obtain ⟨huse, hctr, hlog⟩ := hk
  simpa only [savedIncrement, huse, hctr, hlog] using h

/-- Below 0xFFFF the counter is incremented and saved, whatever the Store answers. -/
theorem savedIncrement_bumpCounter {s : State} (hc : s.ctr ≠ 0xFFFF#16) :
    savedIncrement s.ctr s.storeLog (afterSave (bumpCounter s)) :=
  ⟨⟨_, rfl⟩, toNat_ctr_add_one hc, rfl⟩

/-- An increment adds one save and no load. -/
theorem savedIncrement_countP {c : BitVec 16} {calls : List StoreCall} {t : State} (h : savedIncrement c calls t) :
    t.storeLog.countP isSave = calls.countP isSave + 1 ∧ t.storeLog.countP isLoad = calls.countP isLoad := by
  obtain ⟨⟨ok, hlog⟩, -, -⟩ := h
  simp [hlog, List.countP_cons, isSave, isLoad]

/-- Below 0xFF the use advances without wrapping. -/
theorem useAdvanced_setUse {s : State} (hu : s.sessionUse < 0xFF#8) :
    useAdvanced s (setUse (s.sessionUse + 1#8) s) := by
  have hadd : (s.sessionUse + 1#8).toNat = s.sessionUse.toNat + 1 := by bv_omega
  exact ⟨hadd, rfl, rfl⟩

/-- `onClick` advances the use, is refused at the last pair, or increments the counter at the last use (R159, R160). -/
theorem onClick_session (s : State) :
    useAdvanced s (onClick s).final ∨
    (s.sessionUse = 0xFF#8 ∧ s.ctr = 0xFFFF#16 ∧ sessionKept s (onClick s).final) ∨
    (s.sessionUse = 0xFF#8 ∧ savedIncrement s.ctr s.storeLog (onClick s).final) := by
  rcases onClick_spec s with ⟨hu, h⟩ | ⟨hu, hc, h⟩ | ⟨hu, hc, -, h⟩ | ⟨hu, hc, -, h⟩ <;> rw [h]
  · exact .inl (useAdvanced_setUse hu)
  · exact .inr (.inl ⟨hu, hc, rfl, rfl, rfl⟩)
  · exact .inr (.inr ⟨hu, savedIncrement_bumpCounter hc⟩)
  · exact .inr (.inr ⟨hu, savedIncrement_bumpCounter hc⟩)

/-- Steps 2 to 5 of CLICK keep the session as `onClick` left it. -/
theorem clickBody_sessionKept {s : State} (hr : s.ready = true) :
    sessionKept (onClick s).final (clickBody s).final := by
  obtain ⟨hlog, hctr⟩ := clickBody_final_of_ready hr
  refine ⟨?_, hctr, hlog⟩
  rcases clickBody_ready hr with ⟨e, t, hc, h⟩ | ⟨t, hc, h⟩
  · simp [h, hc]
  · obtain ⟨vs, -, hfinal⟩ := emitOtp_final (blockNow t) (afterDraws t)
    simp [h, hc, hfinal]

/-- The end of CLICK keeps the session as its body left it. -/
theorem execClick_sessionKept {s t : State} (h : exec .click s = .next t) : sessionKept (clickBody s).final t := by
  rcases exec_cases h with ⟨hi, -⟩ | ⟨-, rfl⟩ | ⟨-, hc, -⟩
  · cases hi
  · simp [sessionKept]
  · exact absurd rfl hc

/-- The end of INSERT keeps the session as its body left it. -/
theorem execInsert_sessionKept {s t : State} (h : exec .insert s = .next t) : sessionKept (insertBody s).final t := by
  rcases exec_cases h with ⟨-, rfl⟩ | ⟨hi, -⟩ | ⟨hi, -⟩
  · simp [sessionKept]
  · cases hi
  · exact absurd rfl hi

/-- CLICK with READY does to the session what `onClick` does. -/
theorem execClick_session {s t : State} (h : exec .click s = .next t) (hr : s.ready = true) :
    useAdvanced s t ∨ (s.sessionUse = 0xFF#8 ∧ s.ctr = 0xFFFF#16 ∧ sessionKept s t) ∨
      (s.sessionUse = 0xFF#8 ∧ savedIncrement s.ctr s.storeLog t) := by
  obtain ⟨huse, hctr, hlog⟩ := clickBody_sessionKept hr
  obtain ⟨huse', hctr', hlog'⟩ := execClick_sessionKept h
  simpa only [useAdvanced, sessionKept, savedIncrement, huse', hctr', hlog', huse, hctr, hlog] using onClick_session s

/-- CLICK without READY changes nothing of the session (60_exceptions.md R203). -/
theorem execClick_session_of_notReady {s t : State} (h : exec .click s = .next t) (hr : s.ready = false) :
    sessionKept s t := by
  simpa [clickBody_notReady hr] using execClick_sessionKept h

/-- INSERT fails to load and keeps the pair, or is refused at the loaded 0xFFFF with the use kept, or increments the loaded
counter (R157, R158). -/
theorem insertBody_session {s t : State} (hk : sessionKept (insertBody s).final t) :
    (t.sessionUse = s.sessionUse ∧ t.ctr = s.ctr ∧ t.storeLog = .load none :: s.storeLog) ∨
    ∃ m, loadAnswer s = some m ∧
      ((t.sessionUse = s.sessionUse ∧ t.ctr = 0xFFFF#16 ∧ m.sessionCounter = 0xFFFF#16 ∧
          t.storeLog = .load (some m) :: s.storeLog) ∨
       savedIncrement m.sessionCounter (.load (some m) :: s.storeLog) t) := by
  rcases insertBody_spec s with ⟨hl, hb⟩ | ⟨m, hl, ⟨hc, hb⟩ | ⟨hc, -, hb⟩ | ⟨hc, -, hb⟩⟩ <;> rw [hb] at hk
  · exact .inl (by simpa [sessionKept, hl] using hk)
  · exact .inr ⟨m, hl, .inl (by simpa [sessionKept, hl, hc] using hk)⟩
  all_goals
    have hinc := savedIncrement_bumpCounter (s := loadedState m s) hc
    rw [loadedState_storeLog, hl] at hinc
    exact .inr ⟨m, hl, .inr (savedIncrement_of_sessionKept hinc hk)⟩

/-! ### `CTR` and the last Store call (44_session.md R155, R163) -/

/-- The save of an increment carried `CTR`. -/
theorem saveTracksCounter_of_savedIncrement {c : BitVec 16} {calls : List StoreCall} {t : State}
    (h : savedIncrement c calls t) : saveTracksCounter t := by
  obtain ⟨⟨ok, hlog⟩, -, -⟩ := h
  simp [saveTracksCounter, hlog]

/-- Where `CTR` and the Store stay as they were, what the last call says of `CTR` stays true. -/
theorem saveTracksCounter_congr {s t : State} (hs : saveTracksCounter s) (hb : t.booting = s.booting)
    (hctr : t.ctr = s.ctr) (hlog : t.storeLog = s.storeLog) : saveTracksCounter t := by
  simpa only [saveTracksCounter, hb, hctr, hlog] using hs

/-- INSERT leaves `CTR` as its last Store call says, whatever it was before. -/
theorem saveTracksCounter_of_insertBody {s t : State} (hk : sessionKept (insertBody s).final t) :
    saveTracksCounter t := by
  rcases insertBody_session hk with ⟨-, -, hlog⟩ | ⟨m, -, ⟨-, hctr, hm, hlog⟩ | hinc⟩
  · simp [saveTracksCounter, hlog]
  · simp [saveTracksCounter, hlog, hctr, hm]
  · exact saveTracksCounter_of_savedIncrement hinc

/-- CLICK keeps `CTR` and the Store, or saves the `CTR` it leaves. -/
theorem execClick_saveTracksCounter {s t : State} (hs : saveTracksCounter s) (h : exec .click s = .next t) :
    saveTracksCounter t := by
  obtain ⟨hb, -, -⟩ := exec_host_frame h
  cases hr : s.ready with
  | false =>
    obtain ⟨-, hctr, hlog⟩ := execClick_session_of_notReady h hr
    exact saveTracksCounter_congr hs hb hctr hlog
  | true =>
    rcases execClick_session h hr with ⟨-, hctr, hlog⟩ | ⟨-, -, -, hctr, hlog⟩ | ⟨-, hinc⟩
    · exact saveTracksCounter_congr hs hb hctr hlog
    · exact saveTracksCounter_congr hs hb hctr hlog
    · exact saveTracksCounter_of_savedIncrement hinc

/-- A command of the host keeps the relation. -/
theorem exec_saveTracksCounter {i : Instr} {s t : State} (hs : saveTracksCounter s) (h : exec i s = .next t) :
    saveTracksCounter t := by
  by_cases hi : i = .insert
  · exact saveTracksCounter_of_insertBody (execInsert_sessionKept (hi ▸ h))
  by_cases hc : i = .click
  · exact execClick_saveTracksCounter hs (hc ▸ h)
  · obtain ⟨hb, -, -⟩ := exec_host_frame h
    obtain ⟨⟨hctr, -⟩, hlog⟩ := exec_session_frame h hi hc
    exact saveTracksCounter_congr hs hb hctr hlog

/-- The implicit INSERT of reset establishes the relation (70_reset_and_hazards.md R221). -/
theorem implicitInsert_saveTracksCounter (s : State) : saveTracksCounter (implicitInsert s) := by
  rw [implicitInsert_eq, insertProc_final]
  exact saveTracksCounter_of_insertBody ⟨rfl, rfl, rfl⟩

/-- While the implicit INSERT is owed nothing is claimed of `CTR`. -/
theorem saveTracksCounter_of_booting {s : State} (hb : s.booting = true) : saveTracksCounter s := by
  simp [saveTracksCounter, hb]

/-- Settles O59, by the kinds of step: the implicit INSERT, an idle step, a reset, a command, an illegal word. -/
theorem stepKeepsSaveTracking : Obligations.StepKeepsSaveTracking := by
  refine ⟨saveTracksCounter_of_booting rfl, fun s t hs h => ?_⟩
  rcases step_cases h with ⟨-, rfl⟩ | ⟨-, -, rfl⟩ | ⟨-, rest, -, rfl⟩ | ⟨-, w, rest, i, -, -, he⟩ |
    ⟨-, w, rest, e, -, -, rfl⟩
  · exact implicitInsert_saveTracksCounter s
  · exact hs
  · exact saveTracksCounter_of_booting rfl
  · exact exec_saveTracksCounter (s := { s with inbox := rest }) hs he
  · exact saveTracksCounter_congr hs rfl rfl rfl

/-! ### One save per increment (44_session.md R163, 10_state.md R29) -/

/-- Settles O54: INSERT and CLICK by what they do to the session, every other command by its frame. -/
theorem oneSavePerIncrement : Obligations.OneSavePerIncrement := by
  intro i s t h
  by_cases hi : i = .insert
  · subst hi
    rcases insertBody_session (execInsert_sessionKept h) with
      ⟨huse, hctr, hlog⟩ | ⟨m, hl, ⟨huse, hctr, -, hlog⟩ | ⟨⟨ok, hlog⟩, hctr, huse⟩⟩
    · exact .inl ⟨by simp [hlog, isSave], .inl huse, .inl hctr⟩
    · exact .inl ⟨by simp [hlog, isSave], .inl huse, .inr ⟨rfl, hctr⟩⟩
    · exact .inr ⟨_, ok, _, hlog, hctr, huse, .inr ⟨rfl, m, hl, rfl, rfl⟩⟩
  by_cases hc : i = .click
  · subst hc
    cases hr : s.ready with
    | false =>
      obtain ⟨huse, hctr, hlog⟩ := execClick_session_of_notReady h hr
      exact .inl ⟨by rw [hlog], .inl huse, .inl hctr⟩
    | true =>
      rcases execClick_session h hr with ⟨huse, hctr, hlog⟩ | ⟨-, -, huse, hctr, hlog⟩ | ⟨-, ⟨ok, hlog⟩, hctr, huse⟩
      · exact .inl ⟨by rw [hlog], .inr ⟨rfl, huse⟩, .inl hctr⟩
      · exact .inl ⟨by rw [hlog], .inl huse, .inl hctr⟩
      · exact .inr ⟨_, ok, _, hlog, hctr, huse, .inl ⟨rfl, rfl, rfl⟩⟩
  · obtain ⟨⟨hctr, huse, -⟩, hlog⟩ := exec_session_frame h hi hc
    exact .inl ⟨by rw [hlog], .inl huse, .inl hctr⟩

/-! ### Clicks in a row (44_session.md R162(c))

The pair (`CTR`, `USE`) read as one number in base 256: each click adds 1 to it, and a wrap is the carry. -/

/-- The pair (`CTR`, `USE`) as a number in base 256. -/
def pairNumber (s : State) : Nat := 256 * s.ctr.toNat + s.sessionUse.toNat

/-- From `s` to `t` the pair rises by `k`, each increment of the counter is saved once, nothing is loaded, and the offset
is kept. -/
structure CountsOn (k : Nat) (s t : State) : Prop where
  /-- The pair rises by `k`. -/
  pair : pairNumber t = pairNumber s + k
  /-- There are as many new saves as the counter has risen by. -/
  saves : t.storeLog.countP isSave + s.ctr.toNat = s.storeLog.countP isSave + t.ctr.toNat
  /-- Nothing is loaded. -/
  loads : t.storeLog.countP isLoad = s.storeLog.countP isLoad
  /-- The offset is kept (R161). -/
  tsoff : t.tsoff = s.tsoff

theorem CountsOn.refl (s : State) : CountsOn 0 s s := ⟨rfl, rfl, rfl, rfl⟩

theorem CountsOn.trans {j k : Nat} {s t u : State} (hst : CountsOn j s t) (htu : CountsOn k t u) :
    CountsOn (j + k) s u where
  pair := by rw [htu.pair, hst.pair, Nat.add_assoc]
  saves := by
    have := hst.saves
    have := htu.saves
    omega
  loads := htu.loads.trans hst.loads
  tsoff := htu.tsoff.trans hst.tsoff

/-- A click below the last pair counts on by 1, whether it emits an OTP or not (R160(b), 70_reset_and_hazards.md R226). -/
theorem execClick_countsOn {s t : State} (h : exec .click s = .next t) (hr : s.ready = true)
    (hlt : pairNumber s + 1 < 2 ^ 24) : CountsOn 1 s t := by
  obtain ⟨-, htsoff, -⟩ := exec_identity_frame h (by decide)
  rcases execClick_session h hr with ⟨huse, hctr, hlog⟩ | ⟨huse, hctr, -⟩ | ⟨huse, hinc⟩
  · exact ⟨by rw [pairNumber, pairNumber, huse, hctr, Nat.add_assoc], by rw [hlog, hctr], by rw [hlog], htsoff⟩
  · simp [pairNumber, huse, hctr] at hlt
  · obtain ⟨hsaves, hloads⟩ := savedIncrement_countP hinc
    obtain ⟨-, hctr, huse'⟩ := hinc
    refine ⟨?_, by omega, hloads, htsoff⟩
    simp only [pairNumber, huse, huse', hctr, BitVec.toNat_ofNat]
    omega

/-- `k` clicks count on by `k`, as long as the pairs last. -/
theorem clicks_countsOn (k : Nat) {s : State} (hr : s.ready = true) (hlt : pairNumber s + k < 2 ^ 24) :
    ∃ t, clicks k s = .next t ∧ CountsOn k s t := by
  induction k generalizing s with
  | zero => exact ⟨s, rfl, .refl s⟩
  | succ k ih =>
    obtain ⟨t, ht⟩ := exec_completes .click s
    have hst := execClick_countsOn ht hr (by omega)
    obtain ⟨u, hu, htu⟩ := ih (exec_ready ht hr) (by rw [hst.pair]; omega)
    exact ⟨u, by simpa only [clicks, ht] using hu, Nat.add_comm 1 k ▸ hst.trans htu⟩

/-- Settles O26: the pair has risen by `k` from use 0, so its digits are those of `k`, the high one added to the counter. -/
theorem clicksCountInBase256 : Obligations.ClicksCountInBase256 := by
  intro k s hr hu hc
  have hstart : pairNumber s = 256 * s.ctr.toNat := by simp [pairNumber, hu]
  obtain ⟨t, ht, hst⟩ := clicks_countsOn k hr (by omega)
  have hend : 256 * t.ctr.toNat + t.sessionUse.toNat = 256 * s.ctr.toNat + k := hstart ▸ hst.pair
  have huse := t.sessionUse.isLt
  have hctr : t.ctr.toNat = s.ctr.toNat + k / 256 := by omega
  have hsaves := hst.saves
  exact ⟨t, ht, hctr, by omega, hst.tsoff, by omega, hst.loads⟩

end Sys2Proof.Machine
end

section
/-! Proofs for 45_controller.md: how INSERT and CLICK end, and the four outcomes of INSERT (R170, R171). -/

namespace Sys2Proof.Machine

/-! ### The end of INSERT and of CLICK (45_controller.md R170, R172) -/

/-- The state INSERT or CLICK leaves when it raised `e` in `s`: the code goes into `LASTERR` and into the response. -/
def endInError (e : ErrCode) (s : State) : State :=
  raiseError e 0#24 (latchErr e s)

theorem endInError_eq {e : ErrCode} {w : Word} (hw : packRsp e 0#24 = w) (s : State) :
    endInError e s = { s with lasterr := errCode e, rsps := w :: s.rsps } := by
  rw [endInError, raiseError, respond, hw, latchErr]

theorem exec_insert_of_done {s t : State} (h : insertBody s = .done t) :
    exec .insert s = .next (respond .ok (zext24 t.ctr) (latchErr .ok t)) := by
  rw [exec, execInsert, insertProc, h, latchOutcome_done, answerProc_done, latchErr_ctr]

theorem exec_insert_of_raised {s t : State} {e : ErrCode} (h : insertBody s = .raised e t) :
    exec .insert s = .next (endInError e t) := by
  rw [exec, execInsert, insertProc, h, latchOutcome_raised, answerProc_raised, endInError]

theorem exec_click_of_done {s t : State} (h : clickBody s = .done t) :
    exec .click s = .next (respond .ok 44#24 (latchErr .ok t)) := by
  rw [exec, execClick, clickProc, h, latchOutcome_done, answerProc_done, otpLen]

theorem exec_click_of_raised {s t : State} {e : ErrCode} (h : clickBody s = .raised e t) :
    exec .click s = .next (endInError e t) := by
  rw [exec, execClick, clickProc, h, latchOutcome_raised, answerProc_raised, endInError]

theorem packRsp_storageError : packRsp .storageError 0#24 = 0x00000001#32 := by decide

theorem packRsp_sessionCounterExhausted : packRsp .sessionCounterExhausted 0#24 = 0x00000002#32 := by decide

theorem packRsp_otpLen : packRsp .ok 44#24 = 0x00002C00#32 := by decide

/-! ### The loaded identity (10_state.md R23 to R25, 45_controller.md R170) -/

/-- A loaded key stands in `KEY` as far as it reaches, with zeros after it (10_state.md R25). -/
theorem keyRegister_getElem (k : Bytes) (i : Fin 16) :
    (keyRegister k)[i] = if h : i.val < k.length then k[i.val] else 0#8 := by
  by_cases h : i.val < k.length <;> simp [keyRegister, h]

/-- A state with the identity registers that the load leaves holds the loaded mapping. -/
theorem identityLoaded_of_sameIdentity {m : Config.StoreRecord} {s t : State}
    (h : sameIdentity (loadIdentity m s) t) : identityLoaded m t := by
  obtain ⟨hpubid, hprivid, hkey, hkeylen⟩ := h
  refine ⟨hpubid, hprivid, fun i => ?_, ?_⟩
  · rw [hkey]
    exact keyRegister_getElem _ i
  · have hlen : m.aesKey.val.length < 2 ^ 8 := Nat.lt_succ_of_le m.aesKey.property
    rw [hkeylen, loadIdentity_keylen, BitVec.toNat_ofNat, Nat.mod_eq_of_lt hlen]

/-! ### The outcomes of INSERT (45_controller.md R171) -/

/-- INSERT on a Store that loads `m`: refused, saved, or the save failed. -/
theorem insertBody_spec_of_load {s : State} {m : Config.StoreRecord} (hl : loadAnswer s = some m) :
    (m.sessionCounter = 0xFFFF#16 ∧ insertBody s = .raised .sessionCounterExhausted (loadedState m s)) ∨
    (m.sessionCounter ≠ 0xFFFF#16 ∧ saveAnswer s = true ∧
      insertBody s = .done (setReady (afterSave (bumpCounter (loadedState m s))))) ∨
    (m.sessionCounter ≠ 0xFFFF#16 ∧ saveAnswer s = false ∧
      insertBody s = .raised .storageError (afterSave (bumpCounter (loadedState m s)))) := by
  rcases insertBody_spec s with ⟨hn, -⟩ | ⟨m', hl', h⟩
  · cases hl.symm.trans hn
  · cases hl.symm.trans hl'
    exact h

theorem insertBody_loadFailed {s : State} (hl : loadAnswer s = none) :
    insertBody s = .raised .storageError (afterLoad s) := by
  rcases insertBody_spec s with ⟨-, h⟩ | ⟨m, hm, -⟩
  · exact h
  · cases hl.symm.trans hm

theorem insertBody_exhausted {s : State} {m : Config.StoreRecord} (hl : loadAnswer s = some m)
    (hc : m.sessionCounter = 0xFFFF#16) : insertBody s = .raised .sessionCounterExhausted (loadedState m s) := by
  rcases insertBody_spec_of_load hl with ⟨-, h⟩ | ⟨hne, -⟩ | ⟨hne, -⟩
  · exact h
  all_goals exact absurd hc hne

theorem insertBody_saved {s : State} {m : Config.StoreRecord} (hl : loadAnswer s = some m)
    (hc : m.sessionCounter ≠ 0xFFFF#16) (hs : saveAnswer s = true) :
    insertBody s = .done (setReady (afterSave (bumpCounter (loadedState m s)))) := by
  rcases insertBody_spec_of_load hl with ⟨he, -⟩ | ⟨-, -, h⟩ | ⟨-, hf, -⟩
  · exact absurd he hc
  · exact h
  · cases hs.symm.trans hf

theorem insertBody_saveFailed {s : State} {m : Config.StoreRecord} (hl : loadAnswer s = some m)
    (hc : m.sessionCounter ≠ 0xFFFF#16) (hs : saveAnswer s = false) :
    insertBody s = .raised .storageError (afterSave (bumpCounter (loadedState m s))) := by
  rcases insertBody_spec_of_load hl with ⟨he, -⟩ | ⟨-, hf, -⟩ | ⟨-, -, h⟩
  · exact absurd he hc
  · cases hs.symm.trans hf
  · exact h

/-! ### What each outcome leaves, field by field -/

theorem loadedState_eq {s : State} {m : Config.StoreRecord} (hl : loadAnswer s = some m) :
    loadedState m s = { s with
      pubid := m.publicId
      privid := m.privateId
      key := keyRegister m.aesKey.val
      keylen := BitVec.ofNat 8 m.aesKey.val.length
      ctr := m.sessionCounter
      tsoff := draw24Answer s
      env := { s.env with loads := s.env.loads.next, draws24 := s.env.draws24.next }
      storeLog := .load (some m) :: s.storeLog } := by
  simp [loadedState, redrawOffset, loadIdentity, afterLoad, hl, draw24Answer]

/-- A saved or attempted increment leaves the new pair and the call with its answer (44_session.md R158, R160). -/
theorem afterSave_bumpCounter_eq {s : State} {ok : Bool} (hs : saveAnswer s = ok) :
    afterSave (bumpCounter s) = { s with
      ctr := s.ctr + 1#16
      sessionUse := 0#8
      env := { s.env with saves := s.env.saves.next }
      storeLog := .save (s.ctr + 1#16) ok :: s.storeLog } := by
  rw [afterSave, show saveAnswer (bumpCounter s) = ok from hs]
  rfl

/-- The same, on a loaded mapping (45_controller.md R171). -/
theorem afterSave_bumpCounter_loadedState_eq {s : State} {m : Config.StoreRecord} {ok : Bool}
    (hl : loadAnswer s = some m) (hs : saveAnswer s = ok) :
    afterSave (bumpCounter (loadedState m s)) = { s with
      pubid := m.publicId
      privid := m.privateId
      key := keyRegister m.aesKey.val
      keylen := BitVec.ofNat 8 m.aesKey.val.length
      ctr := m.sessionCounter + 1#16
      sessionUse := 0#8
      tsoff := draw24Answer s
      env := { s.env with
        loads := s.env.loads.next, draws24 := s.env.draws24.next, saves := s.env.saves.next }
      storeLog := .save (m.sessionCounter + 1#16) ok :: .load (some m) :: s.storeLog } := by
  rw [afterSave_bumpCounter_eq (s := loadedState m s) hs, loadedState_eq hl]

/-- Settles O13: the load is the only call made, and its failure is the answer. -/
theorem insertLoadFails : Obligations.InsertLoadFails := by
  intro s hl
  rw [exec_insert_of_raised (insertBody_loadFailed hl), endInError_eq packRsp_storageError, afterLoad, hl]
  rfl

/-- Settles O14: the saved outcome, written out field by field. -/
theorem insertSucceeds : Obligations.InsertSucceeds := by
  intro s m hl hc hs
  refine ⟨_, exec_insert_of_done (insertBody_saved hl hc hs), ?_⟩
  rw [afterSave_bumpCounter_loadedState_eq hl hs]
  exact ⟨identityLoaded_of_sameIdentity (s := s) ⟨rfl, rfl, rfl, rfl⟩, rfl⟩

/-- Settles O15: the refusal comes after the load and the redraw, and before the use is reset or anything is saved. -/
theorem insertAtCounterMaximum : Obligations.InsertAtCounterMaximum := by
  intro s m hl hc
  refine ⟨_, exec_insert_of_raised (insertBody_exhausted hl hc), ?_⟩
  rw [endInError_eq packRsp_sessionCounterExhausted, loadedState_eq hl, hc]
  exact ⟨identityLoaded_of_sameIdentity (s := s) ⟨rfl, rfl, rfl, rfl⟩, rfl⟩

/-- Settles O16: the registers are updated before the save goes out. -/
theorem insertSaveFails : Obligations.InsertSaveFails := by
  intro s m hl hc hs
  refine ⟨_, exec_insert_of_raised (insertBody_saveFailed hl hc hs), ?_⟩
  rw [endInError_eq packRsp_storageError, afterSave_bumpCounter_loadedState_eq hl hs]
  exact ⟨identityLoaded_of_sameIdentity (s := s) ⟨rfl, rfl, rfl, rfl⟩, rfl⟩

end Sys2Proof.Machine
end

section
/-! Proofs for 45_controller.md: the outcomes of CLICK (R172 to R175), what it never answers (R174), and the difference of
two successive OTPs (R176). -/

namespace Sys2Proof.Machine

/-! ### `onClick` at the last use (44_session.md R159, R160) -/

theorem onClick_exhausted {s : State} (hu : s.sessionUse = 0xFF#8) (hc : s.ctr = 0xFFFF#16) :
    onClick s = .raised .sessionCounterExhausted s := by
  rw [onClick_wrap hu]
  rcases advanceAndSave_spec s with ⟨-, h⟩ | ⟨hne, -⟩ | ⟨hne, -⟩
  · exact h
  all_goals exact absurd hc hne

theorem onClick_saved {s : State} (hu : s.sessionUse = 0xFF#8) (hc : s.ctr ≠ 0xFFFF#16) (hs : saveAnswer s = true) :
    onClick s = .done (afterSave (bumpCounter s)) := by
  rw [onClick_wrap hu]
  rcases advanceAndSave_spec s with ⟨he, -⟩ | ⟨-, -, h⟩ | ⟨-, hf, -⟩
  · exact absurd he hc
  · exact h
  · cases hs.symm.trans hf

theorem onClick_saveFailed {s : State} (hu : s.sessionUse = 0xFF#8) (hc : s.ctr ≠ 0xFFFF#16)
    (hs : saveAnswer s = false) : onClick s = .raised .storageError (afterSave (bumpCounter s)) := by
  rw [onClick_wrap hu]
  rcases advanceAndSave_spec s with ⟨he, -⟩ | ⟨-, hf, -⟩ | ⟨-, -, h⟩
  · exact absurd he hc
  · cases hs.symm.trans hf
  · exact h

/-- Every `onClick` that ends writes another use: one more, or 0 after 0xFF. -/
theorem onClick_use_ne {s t : State} (h : onClick s = .done t) : t.sessionUse ≠ s.sessionUse := by
  rcases onClick_spec s with ⟨-, hc⟩ | ⟨-, -, hc⟩ | ⟨hu, -, -, hc⟩ | ⟨-, -, -, hc⟩ <;> cases hc.symm.trans h
  · rw [setUse_sessionUse]
    bv_omega
  · rw [afterSave_sessionUse, bumpCounter_sessionUse, hu]
    decide

/-! ### CLICK with READY (45_controller.md R172, R173) -/

/-- An error of `onClick` ends CLICK. -/
theorem clickBody_of_raised {s t : State} {e : ErrCode} (hr : s.ready = true) (h : onClick s = .raised e t) :
    clickBody s = .raised e t := by
  rw [clickBody, if_pos hr, h]

/-- The block passes the self-validation, so that the length of the key decides whether the OTP is stored. -/
theorem clickBody_of_done {s t : State} (hr : s.ready = true) (h : onClick s = .done t) :
    clickBody s = if keyUsable t then .done (memWrite outBase (otpString t (blockNow t)) (afterDraws t))
      else .raised .cryptoError (afterDraws t) := by
  have hvalid : validBlock (blockNow t) = true := validBlock_buildBlock ..
  rw [clickBody, if_pos hr, h]
  exact if_pos hvalid

/-- `onClick` keeps BM and the length of the key. -/
theorem onClick_frame (s : State) : (onClick s).final.bm = s.bm ∧ (onClick s).final.keylen = s.keylen := by
  obtain ⟨c, u, env, log, h⟩ := onClick_final s
  rw [h]
  exact ⟨rfl, rfl⟩

theorem keyUsable_of_onClick {s t : State} (h : onClick s = .done t) : keyUsable t = true ↔ s.keylen = 16#8 := by
  obtain ⟨-, hkeylen⟩ := onClick_frame s
  rw [h, Proc.final_done] at hkeylen
  rw [keyUsable_iff, hkeylen]

/-- The state CLICK leaves when it has stored the OTP of the registers of `t`. -/
def afterOtp (t : State) : State :=
  respond .ok 44#24 (latchErr .ok (memWrite outBase (otpString t (blockNow t)) (afterDraws t)))

theorem exec_click_of_keylen {s t : State} (hr : s.ready = true) (h : onClick s = .done t) (hk : s.keylen = 16#8) :
    exec .click s = .next (afterOtp t) := by
  rw [exec_click_of_done ((clickBody_of_done hr h).trans (if_pos ((keyUsable_of_onClick h).mpr hk))), afterOtp]

theorem exec_click_of_badKey {s t : State} (hr : s.ready = true) (h : onClick s = .done t) (hk : s.keylen ≠ 16#8) :
    exec .click s = .next (endInError .cryptoError (afterDraws t)) :=
  exec_click_of_raised ((clickBody_of_done hr h).trans (if_neg fun hu => hk ((keyUsable_of_onClick h).mp hu)))

/-! ### What a CLICK that succeeds leaves (45_controller.md R174, R175) -/

/-- OUT holds the OTP of the registers and of the answers that the draw and the clock gave. -/
theorem memRead_afterOtp (t : State) : memRead (afterOtp t) 0x20#8 44 = t.pubid.toList ++ modhexEnc (aes128Enc
    t.key.toList (buildBlock t.privid t.ctr t.sessionUse (nowAnswer t) t.tsoff (draw16Answer t))) := by
  change _ = otpString t (blockNow t)
  rw [afterOtp, memRead_respond, memRead_latchErr, ← otpString_length t (blockNow t)]
  exact memRead_memWrite _ outBase (by simp)

/-- Every byte outside OUT is kept. -/
theorem readByte_afterOtp_of_not_inRange (t : State) {a : Byte} (ha : inRange a 0x20#8 44 = false) :
    readByte (afterOtp t) a = readByte t a := by
  rw [afterOtp, readByte_respond, readByte_latchErr, readByte_memWrite_of_not_inRange_le (a := outBase) _
    (otpString_length t (blockNow t)).le ha, readByte_afterDraws]

/-- Beside BM, `LASTERR` is cleared, one draw and one reading of the clock are taken, and OK is answered. -/
theorem afterOtp_eq (t : State) :
    afterOtp t = { t with
      bm := (afterOtp t).bm
      lasterr := 0#4
      env := { t.env with draws16 := t.env.draws16.next, nows := t.env.nows.next }
      rsps := 0x00002C00#32 :: t.rsps } := by
  simp only [afterOtp, respond, packRsp_otpLen, latchErr, errCode, memWrite, afterDraws]

/-- Settles O18: `onClick` advances the use, and the OTP is that of the state it leaves. -/
theorem clickEmitsOtp : Obligations.ClickEmitsOtp := fun _ hr hu hk =>
  ⟨_, exec_click_of_keylen hr (onClick_below hu) hk, memRead_afterOtp _,
    fun _ => readByte_afterOtp_of_not_inRange _, afterOtp_eq _⟩

/-- Settles O19: `onClick` wraps and saves, and the OTP is that of the state it leaves. -/
theorem wrapClickEmitsOtp : Obligations.WrapClickEmitsOtp := by
  intro s hr hu hc hs hk
  have hclick := onClick_saved hu hc hs
  rw [afterSave_bumpCounter_eq hs] at hclick
  exact ⟨_, exec_click_of_keylen hr hclick hk, memRead_afterOtp _, fun _ => readByte_afterOtp_of_not_inRange _,
    afterOtp_eq _⟩

/-! ### What a CLICK that fails leaves (45_controller.md R174) -/

/-- Settles O20: the error of `onClick` ends CLICK before a draw, with the new pair in the registers. -/
theorem wrapClickSaveFails : Obligations.WrapClickSaveFails := by
  intro s hr hu hc hs
  rw [exec_click_of_raised (clickBody_of_raised hr (onClick_saveFailed hu hc hs)), endInError_eq packRsp_storageError,
    afterSave_bumpCounter_eq hs]
  rfl

/-- Settles O21: `onClick` refuses and changes nothing, before the key is looked at. -/
theorem clickAtExhaustion : Obligations.ClickAtExhaustion := by
  intro s hr hu hc
  rw [exec_click_of_raised (clickBody_of_raised hr (onClick_exhausted hu hc)),
    endInError_eq packRsp_sessionCounterExhausted]
  rfl

/-- Settles O22: both ways `onClick` can end leave a key that the cipher refuses after the draws. -/
theorem badKeyClickConsumesUse : Obligations.BadKeyClickConsumesUse := by
  refine fun s hr hk => ⟨fun hu => ?_, fun hu hc hs => ?_⟩
  · rw [exec_click_of_badKey hr (onClick_below hu) hk, endInError_eq packRsp_cryptoError]
    rfl
  · rw [exec_click_of_badKey hr (onClick_saved hu hc hs) hk, endInError_eq packRsp_cryptoError,
      afterSave_bumpCounter_eq hs]
    rfl

/-! ### Any CLICK (45_controller.md R174) -/

/-- What `onClick` raises is an error. -/
theorem onClick_raised_ne_ok {s t : State} {e : ErrCode} (h : onClick s = .raised e t) : e ≠ .ok := by
  rcases onClick_spec s with ⟨-, hc⟩ | ⟨-, -, hc⟩ | ⟨-, -, -, hc⟩ | ⟨-, -, -, hc⟩ <;> cases hc.symm.trans h <;> decide

/-- A CLICK raises an error before it stores or answers anything, or stores the OTP of what `onClick` left. -/
theorem exec_click_spec {s t : State} (h : exec .click s = .next t) :
    (∃ e u, e ≠ .ok ∧ u.bm = s.bm ∧ u.rsps = s.rsps ∧ t = endInError e u) ∨
    (∃ u, onClick s = .done u ∧ t = afterOtp u) := by
  have eq_of {v : State} (hv : exec .click s = .next v) : t = v := Host.Outcome.next.inj (h.symm.trans hv)
  obtain ⟨hbm, -⟩ := onClick_frame s
  have hrsps := onClick_rsps s
  cases hr : s.ready with
  | false => exact .inl ⟨_, s, by decide, rfl, rfl, eq_of (exec_click_of_raised (clickBody_notReady hr))⟩
  | true =>
    cases hc : onClick s with
    | raised e u =>
      rw [hc] at hbm hrsps
      exact .inl ⟨e, u, onClick_raised_ne_ok hc, hbm, hrsps, eq_of (exec_click_of_raised (clickBody_of_raised hr hc))⟩
    | done u =>
      rw [hc] at hbm hrsps
      by_cases hk : s.keylen = 16#8
      · exact .inr ⟨u, rfl, eq_of (exec_click_of_keylen hr hc hk)⟩
      · exact .inl ⟨_, afterDraws u, by decide, hbm, hrsps, eq_of (exec_click_of_badKey hr hc hk)⟩

/-- Settles O23: the error was raised before the store, and its response carries the code left in `LASTERR` and 0. -/
theorem failedClickKeepsOut : Obligations.FailedClickKeepsOut := by
  intro s t h he
  obtain ⟨-, hepoch, -⟩ := exec_host_frame h
  rcases exec_click_spec h with ⟨e, u, -, hbm, hrsps, rfl⟩ | ⟨u, -, rfl⟩
  · exact ⟨readByte_congr hbm hepoch, packRsp e 0#24, congrArg _ hrsps, rspErr_packRsp e _, rspVal_packRsp e _⟩
  · exact absurd rfl he

/-- Neither InvalidBlock nor InvalidEncoding is a code of `LASTERR` (10_state.md R31). -/
theorem legalLasterr_ne {c : BitVec 4} (h : legalLasterr c = true) : c ≠ 5#4 ∧ c ≠ 4#4 := by
  constructor <;> rintro rfl <;> cases h

/-- Settles O24: the code answered is the one left in `LASTERR`, and the block CLICK checks has just been built. -/
theorem clickNeverInvalidBlockOrEncoding : Obligations.ClickNeverInvalidBlockOrEncoding := by
  intro s t h
  obtain ⟨e, v, hrsps, -, hlegal⟩ := exec_lasterr h (.inr rfl)
  exact ⟨packRsp e v, hrsps, by simpa only [rspErr_packRsp] using legalLasterr_ne hlegal⟩

/-! ### Successive OTPs (45_controller.md R176) -/

/-- The OTP of a block determines the block, as ModHex and the cipher can be undone (43_modhex.md R143, 42_cipher.md
R126). -/
theorem block_eq_of_otp_eq {pubid key b c : Bytes} (hb : b.length = 16) (hc : c.length = 16)
    (h : pubid ++ modhexEnc (aes128Enc key b) = pubid ++ modhexEnc (aes128Enc key c)) : b = c := by
  have hcipher : aes128Enc key b = aes128Enc key c :=
    Option.some.inj (by rw [← modhexDec_modhexEnc, List.append_cancel_left h, modhexDec_modhexEnc])
  rw [← aes128Dec_aes128Enc key hb, hcipher, aes128Dec_aes128Enc key hc]

/-- A CLICK that leaves 0 in `LASTERR` has changed the use, and OUT holds the OTP of the registers it left. -/
theorem exec_click_otp {s t : State} (h : exec .click s = .next t) (he : t.lasterr = 0#4) :
    t.sessionUse ≠ s.sessionUse ∧ ∃ now rnd, memRead t 0x20#8 44 = t.pubid.toList ++ modhexEnc (aes128Enc t.key.toList
      (buildBlock t.privid t.ctr t.sessionUse now t.tsoff rnd)) := by
  rcases exec_click_spec h with ⟨e, u, hne, -, -, rfl⟩ | ⟨u, hc, rfl⟩
  · exact absurd ((errCode_inj (f := .ok)).mp he) hne
  · refine ⟨by simpa [afterOtp] using onClick_use_ne hc, nowAnswer u, draw16Answer u, ?_⟩
    rw [memRead_afterOtp]
    simp [afterOtp]

/-- Settles O25: equal OTPs would come from equal blocks, and the two blocks differ in the use byte. -/
theorem successiveOtpsDiffer : Obligations.SuccessiveOtpsDiffer := by
  intro s t u ht het hu heu heq
  obtain ⟨-, now, rnd, hotp⟩ := exec_click_otp ht het
  obtain ⟨huse, now', rnd', hotp'⟩ := exec_click_otp hu heu
  obtain ⟨⟨hpubid, -, hkey, -⟩, -⟩ := exec_identity_frame hu (by decide)
  rw [hotp, hotp', hpubid, hkey] at heq
  have hblock := block_eq_of_otp_eq (buildBlock_length ..) (buildBlock_length ..) heq
  have hbyte := congrArg (fun b : Bytes => b.getD 11 0) hblock
  simp only [buildBlock_use] at hbyte
  exact huse hbyte.symm

end Sys2Proof.Machine
end

section
/-! Proofs for 46_access.md: the host's commands RDB (R185), WRB (R186) and RDCSR (R187). -/

namespace Sys2Proof.Machine

/-! ### WRB (46_access.md R186) -/

/-- The byte written is read back. -/
theorem readByte_memWrite_singleton_same (s : State) (a v : Byte) : readByte (memWrite a [v] s) a = v := by
  have hfirst := readByte_memWrite_inside s a (vs := [v]) (by simp) (i := 0) (by simp)
  rwa [BitVec.add_zero] at hfirst

/-- A one-byte write keeps every other byte. -/
theorem readByte_memWrite_singleton_of_ne (s : State) {a b : Byte} (v : Byte) (hb : b ≠ a) :
    readByte (memWrite a [v] s) b = readByte s b := by
  refine readByte_memWrite_outside s fun i hi => ?_
  obtain rfl : i = 0 := Nat.lt_one_iff.mp hi
  rwa [BitVec.add_zero]

theorem packRsp_ok_zero : packRsp .ok 0#24 = 0x00000000#32 := by decide

/-- WRB is a one-byte write, answered with OK and 0. -/
theorem exec_wrb (addr data : Byte) (s : State) :
    exec (.wrb addr data) s = .next (respond .ok 0#24 (memWrite addr [data] s)) := by
  rw [exec, execWrb]

/-- Settles O47: the response does not touch BM, and the write is read back at its address and kept at every other. -/
theorem wrbWritesTheByte : Obligations.WrbWritesTheByte := by
  intro s addr data
  refine ⟨_, exec_wrb addr data s, ?_, fun a ha => ?_, ?_⟩
  · rw [readByte_respond, readByte_memWrite_singleton_same]
  · rw [readByte_respond, readByte_memWrite_singleton_of_ne s data ha]
  · simp only [respond, packRsp_ok_zero, memWrite]

/-! ### RDB (46_access.md R185) -/

/-- Settles O46: RDB only responds, with the zero-extended byte. -/
theorem rdbAnswersTheByte : Obligations.RdbAnswersTheByte := fun s addr =>
  calc exec (.rdb addr) s
      = execRdb addr s := rfl
    _ = .next { s with rsps := packRsp .ok ((readByte s addr).setWidth 24) :: s.rsps } := by
        simp only [execRdb, respond, zext24]

/-! ### RDCSR (10_state.md R32 to R34, 46_access.md R187) -/

/-- STATUS as a number: READY stands above the four bits of `LASTERR` (10_state.md R33). -/
theorem statusValue_eq_ofNat (s : State) :
    statusValue s = BitVec.ofNat 24 (s.lasterr.toNat + if s.ready then 16 else 0) := by
  have hbits : (BitVec.ofBool s.ready ++ s.lasterr).toNat = s.ready.toNat * 2 ^ 4 + s.lasterr.toNat := by
    rw [BitVec.toNat_append, BitVec.toNat_ofBool, ← Nat.shiftLeft_add_eq_or_of_lt s.lasterr.isLt, Nat.shiftLeft_eq]
  rw [statusValue, zext24]
  apply BitVec.eq_of_toNat_eq
  rw [BitVec.toNat_setWidth, hbits, BitVec.toNat_ofNat, Nat.add_comm]
  cases s.ready <;> rfl

/-- RDCSR of a register that exists only responds, with its value. -/
theorem exec_rdcsr_of_csrValue {s : State} {n : Byte} {v : BitVec 24} (hv : csrValue s n = some v) :
    exec (.rdcsr n) s = .next { s with rsps := packRsp .ok v :: s.rsps } := by
  simp only [exec, execRdcsr, hv, respond]

/-- Settles O48: each of the five numbers names its register, and only STATUS is composed of two. -/
theorem rdcsrAnswersTheRegister : Obligations.RdcsrAnswersTheRegister := fun s =>
  have hstatus : csrValue s 0 = some (BitVec.ofNat 24 (s.lasterr.toNat + if s.ready then 16 else 0)) :=
    congrArg some (statusValue_eq_ofNat s)
  ⟨exec_rdcsr_of_csrValue hstatus, exec_rdcsr_of_csrValue rfl, exec_rdcsr_of_csrValue rfl,
    exec_rdcsr_of_csrValue rfl, exec_rdcsr_of_csrValue rfl⟩

end Sys2Proof.Machine
end

section
/-! Proofs for 60_exceptions.md and 70_reset_and_hazards.md: NotReady (R203, R205), the two stages of reset (R220, R221),
and the OTPs left at the last counter value (R229). -/

namespace Sys2Proof.Machine

/-! ### NotReady (60_exceptions.md R203, R205) -/

theorem packRsp_notReady : packRsp .notReady 0#24 = 0x00000007#32 := by decide

theorem exec_build_of_notReady {s : State} (hr : s.ready = false) :
    exec .build s = .next (raiseError .notReady 0#24 s) := by
  simp [exec, execBuild, hr]

/-- Settles O17: READY is the first thing both commands look at, and CLICK alone latches the error. -/
theorem notReadyRefusesClickAndBuild : Obligations.NotReadyRefusesClickAndBuild := by
  refine fun s hr => ⟨?_, ?_⟩
  · rw [exec_click_of_raised (clickBody_notReady hr), endInError_eq packRsp_notReady]
    rfl
  · rw [exec_build_of_notReady hr, raiseError, respond, packRsp_notReady]

/-! ### Stage 1 of reset (70_reset_and_hazards.md R220) -/

theorem coldRegisters_reset : coldRegisters State.reset := by
  unfold coldRegisters
  decide

/-- An assertion of reset gives every register the value of power-up. -/
theorem coldRegisters_assertReset (s : State) : coldRegisters (assertReset s) := coldRegisters_reset

/-- Settles O10: asserting reset is power-up but for what is not the block's. -/
theorem resetLeavesColdRegisters : Obligations.ResetLeavesColdRegisters :=
  ⟨⟨coldRegisters_reset, rfl⟩, fun _ _ hb hi =>
    ⟨_, step_of_assertReset hb hi, coldRegisters_assertReset _, rfl, rfl, rfl, rfl, rfl, rfl⟩⟩

/-! ### Stage 2 of reset (70_reset_and_hazards.md R221) -/

/-- INSERT ends in one response to what `insertProc` left. -/
theorem exec_insert_eq (s : State) : exec .insert s =
    .next (respond (insertProc s).code ((insertProc s).val fun t => zext24 t.ctr) (insertProc s).final) := by
  rw [exec, execInsert, answerProc_eq]

/-- INSERT returns nothing before its response. -/
theorem insertProc_rsps (s : State) : (insertProc s).final.rsps = s.rsps := by
  rw [insertProc_final, latchErr_rsps, insertBody_rsps]

/-- Stage 2 is an INSERT whose response is taken back and which ends the reset. -/
theorem implicitInsert_of_exec {s u : State} (h : exec .insert s = .next u) :
    implicitInsert s = { u with booting := false, rsps := s.rsps } := by
  cases (exec_insert_eq s).symm.trans h
  rw [implicitInsert_eq, ← insertProc_rsps s]
  rfl

/-- Settles O11: the reset owes an INSERT, and no INSERT takes an input. -/
theorem resetRunsOneInsert : Obligations.ResetRunsOneInsert := by
  refine ⟨rfl, fun s hb => ?_⟩
  obtain ⟨u, hu⟩ := exec_completes .insert s
  obtain ⟨-, -, hinbox⟩ := exec_host_frame hu
  exact ⟨u, hu, hinbox, by rw [step_of_booting hb, implicitInsert_of_exec hu]⟩

/-- INSERT keeps BM. -/
theorem exec_insert_bm {s u : State} (h : exec .insert s = .next u) : u.bm = s.bm := by
  cases (exec_insert_eq s).symm.trans h
  obtain ⟨hbm, -⟩ := insertBody_frame s
  simp [hbm]

/-- A load that fails leaves the registers cold but for `LASTERR` (45_controller.md R171). -/
theorem exec_insert_registers_of_loadFailed {s u : State} (h : exec .insert s = .next u) (hl : loadAnswer s = none)
    (hcold : coldRegisters s) : coldRegisters { u with lasterr := 0#4 } ∧ u.lasterr = 1#4 := by
  cases (insertLoadFails s hl).symm.trans h
  obtain ⟨hpubid, hprivid, hkey, hkeylen, hctr, huse, htsoff, hready, -⟩ := hcold
  exact ⟨⟨hpubid, hprivid, hkey, hkeylen, hctr, huse, htsoff, hready, rfl⟩, rfl⟩

/-- The registers after an INSERT that loads `m`: refused at 0xFFFF, saved, or the save failed (45_controller.md R171). -/
theorem exec_insert_registers_of_load {s u : State} {m : Config.StoreRecord} (h : exec .insert s = .next u)
    (hl : loadAnswer s = some m) : identityLoaded m u ∧ u.tsoff = draw24Answer s ∧
      ((m.sessionCounter = 0xFFFF#16 ∧
          u.sessionUse = s.sessionUse ∧ u.ctr = 0xFFFF#16 ∧ u.ready = s.ready ∧ u.lasterr = 2#4) ∨
       (m.sessionCounter ≠ 0xFFFF#16 ∧ saveAnswer s = true ∧
          u.sessionUse = 0#8 ∧ u.ctr = m.sessionCounter + 1#16 ∧ u.ready = true ∧ u.lasterr = 0#4) ∨
       (m.sessionCounter ≠ 0xFFFF#16 ∧ saveAnswer s = false ∧
          u.sessionUse = 0#8 ∧ u.ctr = m.sessionCounter + 1#16 ∧ u.ready = s.ready ∧ u.lasterr = 1#4)) := by
  by_cases hc : m.sessionCounter = 0xFFFF#16
  · obtain ⟨t, ht, hid, heq⟩ := insertAtCounterMaximum s m hl hc
    cases ht.symm.trans h
    rw [heq]
    exact ⟨heq ▸ hid, rfl, .inl ⟨hc, rfl, rfl, rfl, rfl⟩⟩
  cases hs : saveAnswer s with
  | true =>
    obtain ⟨t, ht, hid, heq⟩ := insertSucceeds s m hl hc hs
    cases ht.symm.trans h
    rw [heq]
    exact ⟨heq ▸ hid, rfl, .inr (.inl ⟨hc, rfl, rfl, rfl, rfl, rfl⟩)⟩
  | false =>
    obtain ⟨t, ht, hid, heq⟩ := insertSaveFails s m hl hc hs
    cases ht.symm.trans h
    rw [heq]
    exact ⟨heq ▸ hid, rfl, .inr (.inr ⟨hc, rfl, rfl, rfl, rfl, rfl⟩)⟩

/-- Settles O12: the registers are those the one INSERT of stage 2 leaves, run on cold registers. -/
theorem resetSequenceOutcomes : Obligations.ResetSequenceOutcomes := by
  intro s hcold hb
  obtain ⟨-, hboot⟩ := resetRunsOneInsert
  obtain ⟨u, hu, -, hstep⟩ := hboot s hb
  have hbm := exec_insert_bm hu
  have hfailed := fun hl => exec_insert_registers_of_loadFailed hu hl hcold
  refine ⟨_, hstep, rfl, hbm, hfailed, fun m hl => ?_⟩
  obtain ⟨-, -, -, -, -, huse0, -, hready0, -⟩ := hcold
  obtain ⟨hid, htsoff, ⟨hc, huse, hctr, hready, hlast⟩ | ⟨hc, hs, huse, hctr, hready, hlast⟩ |
    ⟨hc, hs, huse, hctr, hready, hlast⟩⟩ := exec_insert_registers_of_load hu hl
  · exact ⟨hid, huse.trans huse0, htsoff, fun _ => ⟨hctr, hready.trans hready0, hlast⟩, fun hne => absurd hc hne⟩
  · exact ⟨hid, huse, htsoff, fun he => absurd he hc,
      fun _ => ⟨hctr, fun _ => ⟨hready, hlast⟩, fun hf => nomatch hs.symm.trans hf⟩⟩
  · exact ⟨hid, huse, htsoff, fun he => absurd he hc,
      fun _ => ⟨hctr, fun hf => (nomatch hs.symm.trans hf), fun _ => ⟨hready.trans hready0, hlast⟩⟩⟩

/-! ### The last counter value (70_reset_and_hazards.md R229) -/

/-- One more click follows the clicks already done. -/
theorem clicks_succ_of_next {k : Nat} {s t : State} (h : clicks k s = .next t) :
    clicks (k + 1) s = exec .click t := by
  induction k generalizing s with
  | zero =>
    obtain rfl : s = t := Host.Outcome.next.inj h
    obtain ⟨u, hu⟩ := exec_completes .click s
    simp only [clicks, hu]
  | succ k ih =>
    obtain ⟨u, hu⟩ := exec_completes .click s
    rw [clicks, hu] at h ⊢
    exact ih h

/-- `k` clicks after (0xFFFF, 0), with `answered` the responses before them: the first 255 have each emitted an OTP, and
every later one has been refused. -/
structure AfterLastClicks (answered : List Word) (k : Nat) (t : State) : Prop where
  /-- CLICK can run. -/
  ready : t.ready = true
  /-- The key is usable. -/
  keylen : t.keylen = 16#8
  /-- The counter stays at its maximum. -/
  ctr : t.ctr = 0xFFFF#16
  /-- The use counts the OTPs. -/
  sessionUse : t.sessionUse.toNat = min k 255
  /-- The OTPs' responses, then the refusals, newest first. -/
  rsps : t.rsps = List.replicate (k - 255) 0x00000002#32 ++ (List.replicate (min k 255) 0x00002C00#32 ++ answered)

/-- Below the last use a click emits the next OTP. -/
theorem AfterLastClicks.emit {answered : List Word} {k : Nat} {t : State} (h : AfterLastClicks answered k t)
    (hk : k < 255) : ∃ u, exec .click t = .next u ∧ AfterLastClicks answered (k + 1) u := by
  have huse : t.sessionUse.toNat = k := by rw [h.sessionUse, Nat.min_eq_left hk.le]
  have hlt : t.sessionUse < 0xFF#8 := by
    rw [BitVec.lt_def, huse]
    exact hk
  obtain ⟨u, hu, -, -, heq⟩ := clickEmitsOtp t h.ready hlt h.keylen
  refine ⟨u, hu, ?_⟩
  rw [heq]
  exact {
    ready := h.ready
    keylen := h.keylen
    ctr := h.ctr
    sessionUse := by
      change (t.sessionUse + 1#8).toNat = _
      bv_omega
    rsps := by
      have hrsps := h.rsps
      rw [Nat.min_eq_left hk.le, Nat.sub_eq_zero_of_le hk.le] at hrsps
      rw [Nat.min_eq_left hk, Nat.sub_eq_zero_of_le hk]
      exact congrArg (0x00002C00#32 :: ·) hrsps }

/-- At the last use a click is refused. -/
theorem AfterLastClicks.refuse {answered : List Word} {k : Nat} {t : State} (h : AfterLastClicks answered k t)
    (hk : 255 ≤ k) : ∃ u, exec .click t = .next u ∧ AfterLastClicks answered (k + 1) u := by
  have huse : t.sessionUse = 0xFF#8 := BitVec.eq_of_toNat_eq (h.sessionUse.trans (Nat.min_eq_right hk))
  refine ⟨_, clickAtExhaustion t h.ready huse h.ctr, h.ready, h.keylen, h.ctr, ?_, ?_⟩
  · have := h.sessionUse
    change t.sessionUse.toNat = _
    omega
  · have hrsps := h.rsps
    rw [Nat.min_eq_right hk] at hrsps
    rw [Nat.min_eq_right (by omega), Nat.sub_add_comm hk]
    exact congrArg (0x00000002#32 :: ·) hrsps

/-- From (0xFFFF, 0) every number of clicks emits the 255 OTPs left and no more. -/
theorem clicks_afterLastClicks {s : State} (h : AfterLastClicks s.rsps 0 s) (k : Nat) :
    ∃ t, clicks k s = .next t ∧ AfterLastClicks s.rsps k t := by
  induction k with
  | zero => exact ⟨s, rfl, h⟩
  | succ k ih =>
    obtain ⟨t, ht, hk⟩ := ih
    rw [clicks_succ_of_next ht]
    rcases Nat.lt_or_ge k 255 with hlt | hge
    · exact hk.emit hlt
    · exact hk.refuse hge

/-- Settles O27: the two clauses are the counts of OTPs and refusals after `k ≤ 255` and after `255 + j` clicks. -/
theorem exactlyTwoHundredFiftyFiveOtpsLeft : Obligations.ExactlyTwoHundredFiftyFiveOtpsLeft := by
  intro s hr hkey hc hu
  have hstart : AfterLastClicks s.rsps 0 s := ⟨hr, hkey, hc, by rw [hu]; rfl, rfl⟩
  refine ⟨fun k hk => ?_, fun j => ?_⟩
  · obtain ⟨t, ht, hafter⟩ := clicks_afterLastClicks hstart k
    have hrsps := hafter.rsps
    rw [Nat.min_eq_left hk, Nat.sub_eq_zero_of_le hk] at hrsps
    exact ⟨t, ht, hafter.sessionUse.trans (Nat.min_eq_left hk), hafter.ctr, hrsps⟩
  · obtain ⟨t, ht, hafter⟩ := clicks_afterLastClicks hstart (255 + j)
    have hmin : min (255 + j) 255 = 255 := Nat.min_eq_right (Nat.le_add_right 255 j)
    have hrsps := hafter.rsps
    rw [hmin, Nat.add_sub_cancel_left] at hrsps
    exact ⟨t, ht, BitVec.eq_of_toNat_eq (hafter.sessionUse.trans hmin), hafter.ctr, hrsps⟩

end Sys2Proof.Machine
end
